-- ==== Sys2Proof/Word.lean ====
section
/-! DEFINITION. The plain types that the Bellwharf T44 manual counts and names with: bytes on its two wires, and the numbers
of stations, capture lines, mark lines and schedule entries. Ticks, nanoseconds and units of 2^-24 ns are numbers the manual
adds and compares exactly, so they are `Nat` where they cannot be negative and `Int` where they can (Conventions, 00_scope.md). -/

namespace Sys2Proof

/-- A byte of the span line or of the service port (R178, R180). -/
abbrev Byte := BitVec 8

/-- A station number, 0 to 31 (R39, R161). -/
abbrev Station := Fin 32

/-- A capture line, 0 to 7 (R121). -/
abbrev CapLineNo := Fin 8

/-- A mark line, 0 to 3 (R143, R150). -/
abbrev MarkLineNo := Fin 4

/-- A schedule entry, 0 to 15 (R143). -/
abbrev EntryNo := Fin 16

/-- A count of 40 ns oscillator ticks since full reset (R4, R5). -/
abbrev Tick := Nat

end Sys2Proof
end

