-- ==== Sys2Proof/Syntax.lean ====
section
/-! DEFINITION. The commands of the Bellwharf T44: one constructor of `Instr` for each row of spec/opcode_table.json. A command
is an event that reaches one block of the part: a tick, a bit time, a notice arriving at its recipient, an expiry, a request
whose transaction ends. The table gives no operand fields, so an operand here is what the event brings from OUTSIDE the part
(pin levels, what the line carries, a request's bytes) or WHICH of several like things the event is about (a peer, an entry,
a line, a sender). What a notice carries is in `State`, where its sender put it. -/

namespace Sys2Proof

/-- The seven strap pins as read: STN4..STN0 and FT1, FT0 (R161, R182). -/
structure Straps where
  stn : BitVec 5
  ft : BitVec 2
deriving DecidableEq, Repr

/-- What the receiver sees on the pair in one 40 ns half of a bit time (R178): the pair driven positive or negative, the bias
level that the termination holds with no driver active, or the contention level. -/
inductive PairLevel where
  | positive
  | negative
  | bias
  | contention
deriving DecidableEq, Repr

/-- What the receiver sees in one bit time: the pair in its first half and in its second (R178). -/
structure BitHalves where
  first : PairLevel
  second : PairLevel
deriving DecidableEq, Repr

/-- The blocks that post corrections into ECLK (R11). -/
inductive Poster where
  | agu
  | dmon
  | svc
deriving DecidableEq, Repr

/-- The warning kinds that reach DMON by raise and removal notices of another block: SELF_ACCUSED and NO_AGREEMENT from AGU,
ANCHOR_LOST from ANCH, OVERFLOW from CAPU (R105). -/
inductive NoticeKind where
  | selfAccused
  | noAgreement
  | anchorLost
  | overflow
deriving DecidableEq, Repr

/-- One item of a CONFIGURE request as it comes over the wire: selector, index, value (R163, R180). -/
structure CfgItem where
  selector : Byte
  index : Byte
  value : BitVec 32
deriving DecidableEq, Repr

/-- The arguments of a STAGE request as they come over the wire (R144, R180). `fire` is absent when the "fire time present"
byte is 0. `output` and `chain` are 0xFF for none. -/
structure StageArgs where
  entry : Byte
  mode : Byte
  fire : Option (BitVec 48 × BitVec 32)
  period : BitVec 64
  count : BitVec 16
  reload : BitVec 16
  output : Byte
  width : BitVec 32
  guard : Byte
  bound : BitVec 32
  chain : Byte
  report : Bool
deriving DecidableEq, Repr

/-- The commands, in the order of spec/opcode_table.json. -/
inductive Instr where
  /-- FULL_RESET (R16): power-on, or RESET_N low and released, with the strap pins as they stand at the release. -/
  | fullReset (straps : Straps)
  /-- TICK (R7): one tick of the selected oscillator, with the levels of CAP7..CAP0 and of REF_PPS sampled on it (R109, R121). -/
  | tick (caps : BitVec 8) (ref : Bool)
  /-- POSTING (R11): ECLK takes the oldest posting on its way from this block. -/
  | posting (src : Poster)
  /-- PRIMARY_LOST (R2). -/
  | primaryLost
  /-- FALLBACK_NOTICE_AT_AGU (R3). -/
  | fallbackNoticeAtAgu
  /-- FALLBACK_NOTICE_AT_ANCH (R3, R112). -/
  | fallbackNoticeAtAnch
  /-- FALLBACK_NOTICE_AT_DMON (R2). -/
  | fallbackNoticeAtDmon
  /-- END_OF_SYNC_MARK (R21). -/
  | endOfSyncMark
  /-- RECEPTION_END (R22): the frame checks of the oldest reception that has ended. -/
  | receptionEnd
  /-- DUPLICATE_NOTICE (R24), at DMON. -/
  | duplicateNotice
  /-- ROUND_START_NOTICE (R26), at SPAN. -/
  | roundStartNotice
  /-- SCHEDULED_LAUNCH (R27). -/
  | scheduledLaunch
  /-- TRANSMISSION_START (R27). -/
  | transmissionStart
  /-- MISMATCH (R28). -/
  | mismatch
  /-- DEFERRAL_LIMIT (R30). -/
  | deferralLimit
  /-- BEACON_COMPLETION (R36). -/
  | beaconCompletion
  /-- COMPLETION_NOTICE (R34), at AGU. -/
  | completionNotice
  /-- ACCUSATION_LIST (R100): DMON answers the request SPAN makes at a launch point. -/
  | accusationList
  /-- HAND_OFF (R43): PTAB takes the oldest frame SPAN has handed on. -/
  | handOff
  /-- BAR_EXPIRY (R47) of this peer's record. -/
  | barExpiry (p : Station)
  /-- SILENCE_EXPIRY (R48, R49) of this peer's record. -/
  | silenceExpiry (p : Station)
  /-- DISSENT_NOTICE (R58), at PTAB. -/
  | dissentNotice
  /-- REBASE_NOTICE (R54), at PTAB. -/
  | rebaseNotice
  /-- END_OF_LISTEN (R63). -/
  | endOfListen
  /-- ROUND_CLOSE (R70). -/
  | roundClose
  /-- STEP_NOTICE_AT_AGU (R65). -/
  | stepNoticeAtAgu
  /-- STEP_NOTICE_AT_DMON (R91). -/
  | stepNoticeAtDmon
  /-- STEP_NOTICE_AT_ANCH (R117). -/
  | stepNoticeAtAnch
  /-- STEP_NOTICE_AT_CAPU (R134). -/
  | stepNoticeAtCapu
  /-- STEP_NOTICE_AT_MSCH (R157). -/
  | stepNoticeAtMsch
  /-- SAMPLE (R88), at DMON. -/
  | sample
  /-- LEAVE_NOTICE (R90), at DMON. -/
  | leaveNotice
  /-- WINDOW_NOTICE (R90), at DMON. -/
  | windowNotice
  /-- REVIEW (R93). -/
  | review
  /-- RAISE_NOTICE (R103): DMON takes the oldest notice of this kind on its way, a raise. -/
  | raiseNotice (k : NoticeKind)
  /-- REMOVAL_NOTICE (R104): DMON takes the oldest notice of this kind on its way, a removal. -/
  | removalNotice (k : NoticeKind)
  /-- PULSE (R109): ANCH handles the rising edge found on the reference input on this tick. -/
  | pulse
  /-- WINDOW_END (R114). -/
  | windowEnd
  /-- EDGE_OF_INTEREST (R121): CAPU handles the edge of interest found on this tick on the lowest-numbered line that has one. -/
  | edgeOfInterest
  /-- GUARD_CLOSE (R125) of this capture line. -/
  | guardClose (l : CapLineNo)
  /-- SETTLE (R132): the settle test of the entry at this place of the capture queue, head 0. -/
  | settle (i : Fin 64)
  /-- OVERDUE (R133): the settle limit of the entry at this place of the capture queue, head 0. -/
  | overdue (i : Fin 64)
  /-- HEAD_STANDING_REPORT (R140), CAPU to SVC. -/
  | headStandingReport
  /-- FIRE (R148) of this schedule entry. -/
  | fire (e : EntryNo)
  /-- MARK_RELEASE (R150) of this mark line. -/
  | markRelease (l : MarkLineNo)
  /-- SCHEDULE_REPORT (R159), MSCH to SVC. -/
  | scheduleReport
  /-- CONFIGURE (R163). -/
  | configure (items : List CfgItem)
  /-- START (R164). -/
  | start
  /-- RESTART (R165), with the strap pins as they stand when it is taken. -/
  | restart (straps : Straps)
  /-- SETTIME (R166): v as seconds and ns, and u. -/
  | settime (sec : BitVec 48) (ns : BitVec 32) (u : BitVec 32)
  /-- ANCHOR (R110): s and u_ref. -/
  | anchor (sec : BitVec 48) (uRef : BitVec 32)
  /-- DATE (R139). -/
  | date
  /-- PEEK (R136). -/
  | peek
  /-- TAKE (R137). -/
  | take
  /-- LABEL (R126): line and value. -/
  | label (line : Byte) (value : BitVec 16)
  /-- STAGE (R144). -/
  | stage (a : StageArgs)
  /-- ARM (R145). -/
  | arm (n : Byte)
  /-- STOP (R146). -/
  | stop (n : Byte)
  /-- ENTRY (R147). -/
  | entry (n : Byte)
  /-- STATUS (R172). -/
  | status
  /-- PEER (R173). -/
  | peer (n : Byte)
  /-- WARNINGS (R174). -/
  | warnings
  /-- ATTENTION (R175): the enables byte. -/
  | attention (enables : Byte)
  /-- OVERRUN (R169): the transaction of some request ends while another request is in progress. -/
  | overrun
  /-- UNKNOWN_REQUEST (R170): an ill-formed request whose first byte is `code`. -/
  | unknownRequest (code : Byte)
  /-- BIT_TIME (R19, R178): one 80 ns bit time of the line, with what the receiver sees in its two halves. -/
  | bitTime (sym : BitHalves)
  /-- FULL_RESPONSE_PLACED (R168, step 4). -/
  | fullResponsePlaced
deriving DecidableEq, Repr

end Sys2Proof
end

