-- ==== Sys2Proof/WellFormed.lean ====
section
/-! DEFINITION. Which commands can come about at all. The operand types already bound every index that is not a wire byte.
What is left is the two places where the wire format itself sets a bound: the item count of a CONFIGURE is one byte (R180), and
an ill-formed request is one that R170 calls ill-formed. -/

namespace Sys2Proof

/-- The request codes of R180 whose requests need no argument byte: no transaction that opens with one can be short. -/
def zeroArgumentCodes : List Byte := [0x02, 0x03, 0x10, 0x11, 0x12, 0x30, 0x32]

/-- R180: the item count of a CONFIGURE is carried in one byte. -/
def configureFits (items : List CfgItem) : Bool := items.length ≤ 255

/-- R168, R170: the first byte of an ill-formed request is not the no-request code (that would be a read), nor the code of a
request that needs no argument. -/
def illFormedCode (code : Byte) : Bool := code ≠ 0x00 && !(zeroArgumentCodes.contains code)

/-- The check, command by command. -/
def WellFormed : Instr → Bool
  | .configure items => configureFits items
  | .unknownRequest code => illFormedCode code
  | .fullReset _ => true
  | .tick _ _ => true
  | .posting _ => true
  | .primaryLost => true
  | .fallbackNoticeAtAgu => true
  | .fallbackNoticeAtAnch => true
  | .fallbackNoticeAtDmon => true
  | .endOfSyncMark => true
  | .receptionEnd => true
  | .duplicateNotice => true
  | .roundStartNotice => true
  | .scheduledLaunch => true
  | .transmissionStart => true
  | .mismatch => true
  | .deferralLimit => true
  | .beaconCompletion => true
  | .completionNotice => true
  | .accusationList => true
  | .handOff => true
  | .barExpiry _ => true
  | .silenceExpiry _ => true
  | .dissentNotice => true
  | .rebaseNotice => true
  | .endOfListen => true
  | .roundClose => true
  | .stepNoticeAtAgu => true
  | .stepNoticeAtDmon => true
  | .stepNoticeAtAnch => true
  | .stepNoticeAtCapu => true
  | .stepNoticeAtMsch => true
  | .sample => true
  | .leaveNotice => true
  | .windowNotice => true
  | .review => true
  | .raiseNotice _ => true
  | .removalNotice _ => true
  | .pulse => true
  | .windowEnd => true
  | .edgeOfInterest => true
  | .guardClose _ => true
  | .settle _ => true
  | .overdue _ => true
  | .headStandingReport => true
  | .fire _ => true
  | .markRelease _ => true
  | .scheduleReport => true
  | .start => true
  | .restart _ => true
  | .settime _ _ _ => true
  | .anchor _ _ => true
  | .date => true
  | .peek => true
  | .take => true
  | .label _ _ => true
  | .stage _ => true
  | .arm _ => true
  | .stop _ => true
  | .entry _ => true
  | .status => true
  | .peer _ => true
  | .warnings => true
  | .attention _ => true
  | .overrun => true
  | .bitTime _ => true
  | .fullResponsePlaced => true

end Sys2Proof
end

