-- ==== Sys2Proof/Decode.lean ====
section
/-! DEFINITION. Commands from bits. The table gives no row any bits, so no word of its numbering spells a command. What the
manual does give bits for is the requests of the service port (R168, R170, R180): `decodeTransaction` reads one transaction's
bytes, any bytes, and `encodeRequest` writes a request's bytes. -/

namespace Sys2Proof

/-- The command a word of spec/opcode_table.json's numbering spells. The table gives no row bits, so none does. -/
def decodeTableWord (_nbits _w : Nat) : Option Instr := none

/-- What one transaction of the service port brings (R168). -/
inductive Transaction where
  /-- No whole byte, or the no-request code first: a read and nothing else. -/
  | read
  /-- A request, whole or ill-formed. -/
  | request (c : Instr)
deriving DecidableEq, Repr

/-- The number that bytes make, the most significant first (R167). -/
def beNat (bs : List Byte) : Nat := bs.foldl (fun acc b => acc * 256 + b.toNat) 0

/-- The low `8 * n` bits of a number as `n` bytes, the most significant first (R167). -/
def beBytes : Nat → Nat → List Byte
  | 0, _ => []
  | n + 1, v => BitVec.ofNat 8 (v / 256 ^ n) :: beBytes n v

/-- The `w`-bit field made by the `n` bytes from offset `off` of the arguments. -/
def fieldOf (w : Nat) (bs : List Byte) (off n : Nat) : BitVec w := BitVec.ofNat w (beNat ((bs.drop off).take n))

/-- The items of a CONFIGURE: six bytes each (R180). None if fewer bytes follow than the item count promises (R170). -/
def decodeItems : Nat → List Byte → Option (List CfgItem)
  | 0, _ => some []
  | n + 1, bs =>
    match bs with
    | sel :: idx :: v3 :: v2 :: v1 :: v0 :: rest =>
      (decodeItems n rest).map (fun items => { selector := sel, index := idx, value := fieldOf 32 [v3, v2, v1, v0] 0 4 } :: items)
    | _ => none

/-- The 37 argument bytes of STAGE (R180), the entry first. -/
def decodeStage (bs : List Byte) : StageArgs where
  entry := fieldOf 8 bs 0 1
  mode := fieldOf 8 bs 1 1
  fire := if fieldOf 8 bs 2 1 = 0 then none else some (fieldOf 48 bs 3 6, fieldOf 32 bs 9 4)
  period := fieldOf 64 bs 13 8
  count := fieldOf 16 bs 21 2
  reload := fieldOf 16 bs 23 2
  output := fieldOf 8 bs 25 1
  width := fieldOf 32 bs 26 4
  guard := fieldOf 8 bs 30 1
  bound := fieldOf 32 bs 31 4
  chain := fieldOf 8 bs 35 1
  report := fieldOf 8 bs 36 1 ≠ 0

/-- A request that needs `need` argument bytes: well-formed when they came, else UNKNOWN_REQUEST; bytes beyond them are
ignored (R170). -/
def withArguments (code : Byte) (need : Nat) (args : List Byte) (c : Instr) : Instr :=
  if args.length < need then .unknownRequest code else c

/-- The request that opens with `code` and goes on with `args` (R168, R170, R180). RESTART reads the straps when it is taken. -/
def decodeRequest (straps : Straps) (code : Byte) (args : List Byte) : Instr :=
  if code = 0x01 then
    match args with
    | [] => .unknownRequest code
    | count :: rest =>
      match decodeItems count.toNat rest with
      | some items => .configure items
      | none => .unknownRequest code
  else if code = 0x02 then .start
  else if code = 0x03 then .restart straps
  else if code = 0x04 then withArguments code 14 args (.settime (fieldOf 48 args 0 6) (fieldOf 32 args 6 4) (fieldOf 32 args 10 4))
  else if code = 0x05 then withArguments code 10 args (.anchor (fieldOf 48 args 0 6) (fieldOf 32 args 6 4))
  else if code = 0x10 then .date
  else if code = 0x11 then .peek
  else if code = 0x12 then .take
  else if code = 0x13 then withArguments code 3 args (.label (fieldOf 8 args 0 1) (fieldOf 16 args 1 2))
  else if code = 0x20 then withArguments code 37 args (.stage (decodeStage args))
  else if code = 0x21 then withArguments code 1 args (.arm (fieldOf 8 args 0 1))
  else if code = 0x22 then withArguments code 1 args (.stop (fieldOf 8 args 0 1))
  else if code = 0x23 then withArguments code 1 args (.entry (fieldOf 8 args 0 1))
  else if code = 0x30 then .status
  else if code = 0x31 then withArguments code 1 args (.peer (fieldOf 8 args 0 1))
  else if code = 0x32 then .warnings
  else if code = 0x33 then withArguments code 1 args (.attention (fieldOf 8 args 0 1))
  else .unknownRequest code

/-- What a transaction brings by the whole bytes that were shifted in (R168, R170); `shiftedIn` gathers them from its bits. -/
def decodeTransaction (straps : Straps) : List Byte → Transaction
  | [] => .read
  | code :: args => if code = 0x00 then .read else .request (decodeRequest straps code args)

/-- R180: the six bytes of a CONFIGURE item. -/
def encodeItem (i : CfgItem) : List Byte := i.selector :: i.index :: beBytes 4 i.value.toNat

/-- R180: the 37 argument bytes of STAGE. An absent fire time is sent as zeros. -/
def encodeStage (a : StageArgs) : List Byte :=
  [a.entry, a.mode]
    ++ (match a.fire with
        | none => [0x00] ++ beBytes 6 0 ++ beBytes 4 0
        | some (sec, ns) => [0x01] ++ beBytes 6 sec.toNat ++ beBytes 4 ns.toNat)
    ++ beBytes 8 a.period.toNat ++ beBytes 2 a.count.toNat ++ beBytes 2 a.reload.toNat ++ [a.output]
    ++ beBytes 4 a.width.toNat ++ [a.guard] ++ beBytes 4 a.bound.toNat ++ [a.chain] ++ [if a.report then 0x01 else 0x00]

/-- The bytes of a well-formed request (R180). None for a command that is no request, and for UNKNOWN_REQUEST, which has no
one spelling. -/
def encodeRequest : Instr → Option (List Byte)
  | .configure items => some (0x01 :: BitVec.ofNat 8 items.length :: items.flatMap encodeItem)
  | .start => some [0x02]
  | .restart _ => some [0x03]
  | .settime sec ns u => some (0x04 :: beBytes 6 sec.toNat ++ beBytes 4 ns.toNat ++ beBytes 4 u.toNat)
  | .anchor sec uRef => some (0x05 :: beBytes 6 sec.toNat ++ beBytes 4 uRef.toNat)
  | .date => some [0x10]
  | .peek => some [0x11]
  | .take => some [0x12]
  | .label line value => some (0x13 :: line :: beBytes 2 value.toNat)
  | .stage a => some (0x20 :: encodeStage a)
  | .arm n => some [0x21, n]
  | .stop n => some [0x22, n]
  | .entry n => some [0x23, n]
  | .status => some [0x30]
  | .peer n => some [0x31, n]
  | .warnings => some [0x32]
  | .attention enables => some [0x33, enables]
  | _ => none

end Sys2Proof
end

