-- ==== Sys2Proof/Config.lean ====
section
/-! DEFINITION. What the manual fixes for every Bellwharf T44 (the constants of 00_scope.md and of the chapters), and the one
free value of this model: what the tick counter shows after its largest count. -/

namespace Sys2Proof.Config

/-- UNBOUNDED, the largest uncertainty, at which every uncertainty saturates (00_scope.md, Conventions). -/
abbrev unbounded : Nat := 4294967295

/-- Nanoseconds in a second (R6). -/
abbrev nsPerSecond : Nat := 1000000000

/-- The largest seconds field, 2^48 - 1 (R6). -/
abbrev maxSeconds : Nat := 281474976710655

/-- The largest clock in ns, 281,474,976,710,655.999999999 s (R6, R13). -/
abbrev maxClock : Nat := 281474976710655999999999

/-- Units of 2^-24 ns in one ns (R6, R7). -/
abbrev unitsPerNs : Nat := 16777216

/-- The nominal increment of one tick, 40 ns in units (R7). -/
abbrev nominalIncrement : Nat := 671088640

/-- The trim limit in units (R8). -/
abbrev trimLimit : Nat := 67108

/-- Nanoseconds in one tick (R5). -/
abbrev nsPerTick : Nat := 40

/-- Ensemble time between two update boundaries, one millisecond in ns (R10). -/
abbrev boundaryNs : Nat := 1000000

/-- The effective own tolerance while the selection is BACKUP, in ppm (R3). -/
abbrev backupTolerance : Nat := 1000

/-- Ticks in one reference second, the spacing of anchor windows (R111). -/
abbrev anchorPeriod : Nat := 25000000

/-- The idle run saturates here (R19); the disagreement run, and the skipped and suppressed counters, do too (R82, R143). -/
abbrev countLimit : Nat := 65535

/-- The number of values of the 64-bit tick counter (R4). -/
abbrev tickRange : Nat := 18446744073709551616

/-- FREE VALUE. What the tick counter holds after the tick that follows its largest count, 2^64 - 1. R4 gives the count 64
bits and says nothing of what comes after the last of them. Applied to `State.freeDraws`, a counter, so that each such tick
has a value of its own. Log entry 1. -/
opaque freeTick : Nat → BitVec 64

end Sys2Proof.Config
end

