-- ==== Sys2Proof/Machine/State.lean ====
section
/-! DEFINITION. Everything the manual has the Bellwharf T44 hold, block by block (00_scope.md, Block overview), the notices on
their way between blocks, the queue of commands that wait, and all of it right after a full reset (`State.reset`). -/

namespace Sys2Proof.Machine

/-! ## The names the manual gives -/

/-- R1: the oscillator selection. -/
inductive OscSelection where
  | primary
  | backup
deriving DecidableEq, Repr

/-- R62: the own sync state. -/
inductive SyncState where
  | config
  | listen
  | lone
  | agreed
  | holdover
deriving DecidableEq, Repr

/-- R25: the transmit state. -/
inductive TxState where
  | quiet
  | waiting
  | deferring
  | sending
  | muted
deriving DecidableEq, Repr

/-- R20: the receiver. HUNTING is the first three (waiting for an idle bit time, ready after one, comparing with the sync mark
after `n` bits of it), RECEIVING the fourth. -/
inductive RxPhase where
  | waitIdle
  | ready
  | matching (n : Nat)
  | receiving
deriving DecidableEq, Repr

/-- R20: what ended a reception. -/
inductive RxEnd where
  | idle
  | symbolError
  | overlength
deriving DecidableEq, Repr

/-- R32, R39, R162: the five round periods. -/
inductive Period where
  | ms125
  | ms250
  | ms500
  | ms1000
  | ms2000
deriving DecidableEq, Repr

/-- R39: the link state of a peer record. -/
inductive LinkState where
  | absent
  | listening
  | admitted
  | barred
  | silent
deriving DecidableEq, Repr

/-- R39: the profile a record took at START. -/
inductive ProfileSel where
  | window (w : Fin 4)
  | dflt
deriving DecidableEq, Repr

/-- R95: DMON's judgement of a clock. -/
inductive Verdict where
  | steady
  | suspect
  | drifting
  | easing
deriving DecidableEq, Repr

/-- R84: the outcome of a round close. -/
inductive RoundOutcome where
  | agreed
  | split
  | sparse
  | none
deriving DecidableEq, Repr

/-- R84: how a round close corrected. -/
inductive Application where
  | slew
  | step
  | anchorFollow
  | none
deriving DecidableEq, Repr

/-- R99: the outcome of a review. -/
inductive ReviewOutcome where
  | conclusive
  | inconclusive
  | none
deriving DecidableEq, Repr

/-- R102: the warning kinds. -/
inductive WarningKind where
  | peerDrifting
  | selfDrifting
  | selfAccused
  | noAgreement
  | anchorLost
  | overflow
  | duplicateNumber
  | oscFallback
deriving DecidableEq, Repr

/-- R102: the station a warning names. -/
inductive Subject where
  | peer (n : Station)
  | own
deriving DecidableEq, Repr

/-- R109: the anchor state. -/
inductive AnchorState where
  | unarmed
  | armed
  | qualified
  | lost
deriving DecidableEq, Repr

/-- R121: the direction of an edge. -/
inductive Edge where
  | rising
  | falling
deriving DecidableEq, Repr

/-- R122: the edge setting of a capture line. -/
inductive EdgeSetting where
  | rising
  | falling
  | both
deriving DecidableEq, Repr

/-- R127: the state of a capture entry. -/
inductive EntryState where
  | pending
  | settled
  | overdue
deriving DecidableEq, Repr

/-- R143: how a schedule entry repeats. -/
inductive Mode where
  | single
  | finite
  | cyclic
deriving DecidableEq, Repr

/-- R149: the condition for a mark to be driven. -/
inductive Guard where
  | none
  | agreedOnly
  | bound (b : Nat)
deriving DecidableEq, Repr

/-- R171: the status words. -/
inductive Status where
  | ok
  | empty
  | notSettled
  | busy
  | wrongState
  | badIndex
  | notReady
  | unknownRequest
deriving DecidableEq, Repr

/-- R11: a posting. Phase and trim are in units of 2^-24 ns, a step in ns. -/
inductive Posting where
  | phase (v : Int)
  | trim (v : Int)
  | step (c : Int)
deriving DecidableEq, Repr

/-! ## OSCMON and ECLK -/

/-- OSCMON (R1, R4). -/
structure Osc where
  selection : OscSelection
  tick : Tick
deriving DecidableEq, Repr

/-- ECLK (R6, R8, R9, R11, R17): the clock value, the terms, the phase total, the slots and the posting hold. -/
structure Eclk where
  secs : Nat
  ns : Nat
  sub : Nat
  trim : Int
  phase : Int
  phaseTotal : Int
  phaseSlot : Option Int
  trimSlot : Option Int
  stepSlot : Option Int
  hold : Bool
deriving DecidableEq, Repr

/-! ## SPAN -/

/-- R33: the six flags of a beacon. -/
structure BeaconFlags where
  anchored : Bool
  lone : Bool
  holdover : Bool
  humble : Bool
  unset : Bool
  stepped : Bool
deriving DecidableEq, Repr

/-- R21: the three readings at the end of a sync mark, and whether the own driver was sending there (R22). -/
structure Readings where
  stamp : Nat
  tick : Tick
  phaseTotal : Int
  own : Bool
deriving DecidableEq, Repr

/-- R31 to R35: what a beacon carries, fixed at its launch point. `accusations` is none from SPAN's request to DMON until the
list is given (R100). -/
structure LaunchFields where
  stamp : Nat
  tick : Tick
  deferral : Nat
  seq : BitVec 8
  code : Period
  statedUnc : Nat
  flags : BeaconFlags
  accusations : Option (List Station)
deriving DecidableEq, Repr

/-- R20: a reception that has ended and waits for the frame checks: the bits after its sync mark, oldest first. -/
structure Reception where
  bits : List Bool
  how : RxEnd
  readings : Option Readings
deriving DecidableEq, Repr

/-- SPAN (R19, R20, R24, R25, R26, R36, R37). `sent` counts the bits of the frame in SENDING that have been driven and matched,
and `mismatched` says that one has not (R28). -/
structure Span where
  tx : TxState
  mutedFlag : Bool
  attempts : Nat
  sched : Option Tick
  nextLaunch : Option Tick
  seq : BitVec 8
  frame : Option LaunchFields
  sent : Nat
  mismatched : Bool
  rx : RxPhase
  rxBits : List Bool
  syncDue : Bool
  readings : Option Readings
  ended : List Reception
  idleRun : Nat
deriving DecidableEq, Repr

/-! ## PTAB -/

/-- R52: the latest observation of a peer. -/
structure Observation where
  theta : Int
  eps0 : Nat
  thetaP : Int
  arrivalTick : Tick
  statedUnc : Nat
  flags : BeaconFlags
deriving DecidableEq, Repr

/-- R39: a peer record. The last scheduled arrival, and the silence expiry counted from it, may lie before tick 0 (log entry 14). -/
structure PeerRecord where
  link : LinkState
  profile : Option ProfileSel
  lastSeq : BitVec 8
  lastSched : Int
  interval : Option Period
  inBeat : Nat
  dissent : Nat
  barExpiry : Option Tick
  silenceExpiry : Option Int
  accusesMe : Bool
  obs : Option Observation
deriving DecidableEq, Repr

/-! ## AGU -/

/-- R84: the agreement record. -/
structure AgreementRecord where
  outcome : RoundOutcome
  close : Option (Nat × Tick)
  n : Option Nat
  c : Option Nat
  region : Option (Int × Int)
  corr : Option Int
  h : Option Nat
  application : Application
  posted : Option Posting
  participants : List Station
  dissenters : List Station
  newBase : Option Nat
  baseSet : Bool
deriving DecidableEq, Repr

/-- AGU (R62 to R66, R69, R82, R84). `onBackup` says that AGU has taken the fallback notice (R3). -/
structure Agu where
  sync : SyncState
  unset : Bool
  humble : Bool
  stepped : Bool
  stepTick : Option Tick
  base : Nat
  baseTick : Tick
  onBackup : Bool
  endListen : Option Tick
  roundTimer : Option Tick
  run : Nat
  record : AgreementRecord
deriving DecidableEq, Repr

/-! ## DMON -/

/-- R87: a drift record; a sample is (arrival tick, θ′). -/
structure DriftRecord where
  window : List (Tick × Int)
  rate : Option Int
  fresh : Bool
  verdict : Verdict
  d : Int
deriving DecidableEq, Repr

/-- R99: the review record. -/
structure ReviewRecord where
  outcome : ReviewOutcome
  tick : Option Tick
  k : Option Nat
  ref : Option Int
  ownD : Option Int
  trim : Option Int
deriving DecidableEq, Repr

/-- R102: a warning; the raise time is ensemble time as the clock in ns. -/
structure Warning where
  kind : WarningKind
  subject : Subject
  time : Nat
  value : Int
deriving DecidableEq, Repr

/-- DMON (R87, R92, R99, R102). -/
structure Dmon where
  drift : Vector DriftRecord 32
  ownVerdict : Verdict
  ownD : Int
  stepTick : Option Tick
  reviewTimer : Option Tick
  review : ReviewRecord
  warnings : List Warning
deriving DecidableEq, Repr

/-! ## ANCH -/

/-- R112: an open window: its expected tick, its half-width in ticks and its missed mark. -/
structure AnchorWindow where
  expected : Tick
  half : Nat
  missed : Bool
deriving DecidableEq, Repr

/-- R109: a pulse, by its tick and its stamp τ. -/
structure Pulse where
  tick : Tick
  stamp : Nat
deriving DecidableEq, Repr

/-- ANCH (R109). `onBackup` says that ANCH has taken the fallback notice (R3). `prevRef` is the level last sampled on the
reference input, none before the first sample, and `pulses` the pulses found and not yet taken, oldest first (R117). -/
structure Anch where
  state : AnchorState
  s : Option Nat
  uRef : Nat
  alpha : Option Int
  good : Nat
  miss : Nat
  window : Option AnchorWindow
  lastGood : Option Tick
  onBackup : Bool
  prevRef : Option Bool
  pulses : List Pulse
deriving DecidableEq, Repr

/-! ## CAPU -/

/-- R125: an open guard: its closing tick, and the place in the queue of the entry it links to, or none. -/
structure LineGuard where
  closing : Tick
  link : Option Nat
deriving DecidableEq, Repr

/-- R121, R125, R126: what CAPU keeps for a line besides its setup: the level last sampled (none before the first sample), an
edge found on this tick and not yet handled, the guard and the label latch. -/
structure CapLine where
  prev : Option Bool
  found : Option Edge
  guard : Option LineGuard
  latch : Option (BitVec 16)
deriving DecidableEq, Repr

/-- R127: a capture entry. -/
structure CapEntry where
  line : CapLineNo
  edge : Edge
  tick : Tick
  ts : Int
  unc : Nat
  sync : SyncState
  unset : Bool
  humble : Bool
  muted : Bool
  anchored : Bool
  osc : OscSelection
  label : Option (BitVec 16)
  followers : Nat
  state : EntryState
  rebased : Nat
deriving DecidableEq, Repr

/-- CAPU (R121, R125, R126, R129); `queue` has its head first. -/
structure Capu where
  lines : Vector CapLine 8
  queue : List CapEntry
deriving DecidableEq, Repr

/-! ## MSCH -/

/-- R143: the fields that the live copy and the staging copy share, but for the fire time. `count` is the count remaining of a
live copy and the count of a staging copy. -/
structure Program where
  mode : Mode
  period : Nat
  count : Nat
  reload : Nat
  output : Option MarkLineNo
  width : Nat
  guard : Guard
  chain : Option EntryNo
  report : Bool
deriving DecidableEq, Repr

/-- R143: a schedule entry: the live copy's state (`armed`), fire time, fields, counters and flags, the staging copy's fire time
and fields, and the staged flag. -/
structure SchedEntry where
  armed : Bool
  fire : Nat
  live : Program
  skipped : Nat
  suppressed : Nat
  completion : Bool
  late : Bool
  chainRefused : Bool
  stagingFire : Option Nat
  staging : Program
  staged : Bool
deriving DecidableEq, Repr

/-- R150: a mark line: its release tick, or none, and the level of its pin. -/
structure MarkLine where
  release : Option Tick
  high : Bool
deriving DecidableEq, Repr

/-- MSCH (R143, R150). -/
structure Msch where
  entries : Vector SchedEntry 16
  lines : Vector MarkLine 4
deriving DecidableEq, Repr

/-! ## SVC -/

/-- R41: the five attributes of a profile. -/
structure ProfileAttrs where
  pathDelay : Nat
  pathUnc : Nat
  aging : Nat
  driftLimit : Nat
  accept : Nat
deriving DecidableEq, Repr

/-- R41: a profile window. -/
structure ProfileWindow where
  first : Nat
  last : Nat
  attrs : ProfileAttrs
deriving DecidableEq, Repr

/-- R122: the setup of a capture line; the guard time in ns. -/
structure LineSetup where
  enabled : Bool
  edge : EdgeSetting
  guardNs : Nat
deriving DecidableEq, Repr

/-- R162: the start settings image. -/
structure Image where
  period : Period
  ownTol : Nat
  stepThreshold : Nat
  slewLimit : Nat
  settleMs : Nat
  reviewS : Nat
  windows : Vector ProfileWindow 4
  dflt : ProfileAttrs
  lines : Vector LineSetup 8
deriving DecidableEq, Repr

/-- R167: the response buffer: header and body; the body length of the header is the body's. -/
structure Buffer where
  status : Status
  code : Byte
  overrun : Bool
  body : List Byte
deriving DecidableEq, Repr

/-- R168: the full response of the request in progress, made when the request was taken and not yet placed. -/
structure FullResponse where
  status : Status
  body : List Byte
deriving DecidableEq, Repr

/-- SVC (R161, R162, R168, R174, R175, R176). `capCond` and `schedCond` are the conditions as CAPU and MSCH last reported them. -/
structure Svc where
  station : Station
  ftCode : BitVec 2
  image : Image
  request : Option Byte
  response : Option FullResponse
  buffer : Buffer
  maskCapture : Bool
  maskWarnings : Bool
  maskSchedule : Bool
  warningsChanged : Bool
  capCond : Bool
  schedCond : Bool
deriving DecidableEq, Repr

/-! ## Notices on their way -/

/-- R26: a round-start notice: the tick the round begins at, and whether it is the first. -/
structure RoundStart where
  tick : Tick
  first : Bool
deriving DecidableEq, Repr

/-- R23: what SPAN hands on with a valid frame. -/
structure HandOff where
  station : Station
  seq : BitVec 8
  flags : BeaconFlags
  statedUnc : Nat
  period : Period
  deferral : Nat
  launch : Nat
  accusations : List Station
  stamp : Nat
  tick : Tick
  phaseTotal : Int
deriving DecidableEq, Repr

/-- R55, R56: what PTAB sends DMON for a peer. -/
inductive PeerNotice where
  | sample (p : Station) (tick : Tick) (thetaP : Int)
  | leave (p : Station)
  | window (p : Station)
deriving DecidableEq, Repr

/-- R80: a dissent notice. -/
structure Dissent where
  dissenters : List Station
  agreeing : List Station
deriving DecidableEq, Repr

/-- R103, R104: a raise notice of value 0 for the own station with its raise time, or a removal notice. -/
inductive WarnNotice where
  | raise (k : NoticeKind) (time : Nat)
  | remove (k : NoticeKind)
deriving DecidableEq, Repr

/-- R14: a step notice to CAPU or MSCH: the boundary tick at which ECLK applied the step, and the applied correction C. -/
structure StepNotice where
  tick : Tick
  c : Int
deriving DecidableEq, Repr

/-- The notices and postings that one block has sent and another has not yet taken, each list oldest first (log entry 5). The
fallback notice to DMON and the duplicate notices carry their raise time (R105). -/
structure InFlight where
  postAgu : List Posting
  postDmon : List Posting
  postSvc : List Posting
  fallbackAgu : Bool
  fallbackAnch : Bool
  fallbackDmon : List Nat
  duplicates : List Nat
  roundStart : List RoundStart
  completion : List Tick
  handOffs : List HandOff
  toDmon : List PeerNotice
  dissent : List Dissent
  rebase : List Int
  stepAgu : List Int
  stepDmon : List Int
  stepAnch : List Int
  stepCapu : List StepNotice
  stepMsch : List StepNotice
  warn : List WarnNotice
deriving DecidableEq, Repr

/-! ## The machine -/

/-- The whole part. `freeDraws` is the model's own: it counts the free values drawn (log entry 1). `pending` is the queue of
commands that wait, the front first. -/
structure State where
  osc : Osc
  eclk : Eclk
  span : Span
  ptab : Vector PeerRecord 32
  agu : Agu
  dmon : Dmon
  anch : Anch
  capu : Capu
  msch : Msch
  svc : Svc
  net : InFlight
  freeDraws : Nat
  pending : List Instr
deriving DecidableEq, Repr

/-- No command of this part faults: the manual has no event that stops the machine. No constructor, so nobody raises one. -/
inductive Fault where
deriving DecidableEq, Repr

/-- Why a command has no meaning here. -/
inductive Refusal where
  /-- Raised by no arm of `exec` as it stands: it would say that a command of the table has no meaning yet. Safe: the machine
  stops, and nothing is claimed of what the part does. -/
  | notModelled (mnemonic : String)
deriving DecidableEq, Repr

/-! ## Full reset -/

/-- R16. -/
def Eclk.reset : Eclk where
  secs := 0
  ns := 0
  sub := 0
  trim := 0
  phase := 0
  phaseTotal := 0
  phaseSlot := none
  trimSlot := none
  stepSlot := none
  hold := false

/-- R37; the idle run is 0, so the receiver first waits for an idle bit time (R19, R20). -/
def Span.reset : Span where
  tx := .quiet
  mutedFlag := false
  attempts := 0
  sched := none
  nextLaunch := none
  seq := 0
  frame := none
  sent := 0
  mismatched := false
  rx := .waitIdle
  rxBits := []
  syncDue := false
  readings := none
  ended := []
  idleRun := 0

/-- R61. -/
def PeerRecord.reset : PeerRecord where
  link := .absent
  profile := none
  lastSeq := 0
  lastSched := 0
  interval := none
  inBeat := 0
  dissent := 0
  barExpiry := none
  silenceExpiry := none
  accusesMe := false
  obs := none

/-- R84, R86: outcome NONE, every other field absent or empty. An absent application is held as NONE (DESIGN CHOICE, log entry
27). -/
def AgreementRecord.empty : AgreementRecord where
  outcome := .none
  close := none
  n := none
  c := none
  region := none
  corr := none
  h := none
  application := .none
  posted := none
  participants := []
  dissenters := []
  newBase := none
  baseSet := false

/-- R86. -/
def Agu.reset : Agu where
  sync := .config
  unset := true
  humble := false
  stepped := false
  stepTick := none
  base := Config.unbounded
  baseTick := 0
  onBackup := false
  endListen := none
  roundTimer := none
  run := 0
  record := AgreementRecord.empty

/-- R108. -/
def DriftRecord.reset : DriftRecord where
  window := []
  rate := none
  fresh := false
  verdict := .steady
  d := 0

/-- R99. -/
def ReviewRecord.empty : ReviewRecord where
  outcome := .none
  tick := none
  k := none
  ref := none
  ownD := none
  trim := none

/-- R108. -/
def Dmon.reset : Dmon where
  drift := Vector.replicate 32 DriftRecord.reset
  ownVerdict := .steady
  ownD := 0
  stepTick := none
  reviewTimer := none
  review := ReviewRecord.empty
  warnings := []

/-- R120. -/
def Anch.reset : Anch where
  state := .unarmed
  s := none
  uRef := 0
  alpha := none
  good := 0
  miss := 0
  window := none
  lastGood := none
  onBackup := false
  prevRef := none
  pulses := []

/-- R121, R142. -/
def CapLine.reset : CapLine where
  prev := none
  found := none
  guard := none
  latch := none

/-- R142. -/
def Capu.reset : Capu where
  lines := Vector.replicate 8 CapLine.reset
  queue := []

/-- R160: the fields of every live and staging copy after a reset. -/
def Program.reset : Program where
  mode := .single
  period := 1000
  count := 0
  reload := 1
  output := none
  width := 1
  guard := .none
  chain := none
  report := false

/-- R160. -/
def SchedEntry.reset : SchedEntry where
  armed := false
  fire := 0
  live := Program.reset
  skipped := 0
  suppressed := 0
  completion := false
  late := false
  chainRefused := false
  stagingFire := none
  staging := Program.reset
  staged := false

/-- R160. -/
def Msch.reset : Msch where
  entries := Vector.replicate 16 SchedEntry.reset
  lines := Vector.replicate 4 { release := none, high := false }

/-- R41: the default of every profile attribute. -/
def ProfileAttrs.default : ProfileAttrs where
  pathDelay := 0
  pathUnc := 100
  aging := 5
  driftLimit := 2000
  accept := 1

/-- R41: a window that CONFIGURE leaves out. -/
def ProfileWindow.default : ProfileWindow where
  first := 31
  last := 0
  attrs := ProfileAttrs.default

/-- R122. -/
def LineSetup.default : LineSetup where
  enabled := false
  edge := .rising
  guardNs := 0

/-- R162: every setting at its default. -/
def Image.default : Image where
  period := .ms500
  ownTol := 5
  stepThreshold := 50000
  slewLimit := 200
  settleMs := 2000
  reviewS := 16
  windows := Vector.replicate 4 ProfileWindow.default
  dflt := ProfileAttrs.default
  lines := Vector.replicate 8 LineSetup.default

/-- R177, with the straps as read (R161). -/
def Svc.reset (straps : Straps) : Svc where
  station := straps.stn.toFin
  ftCode := straps.ft
  image := Image.default
  request := none
  response := none
  buffer := { status := .ok, code := 0x00, overrun := false, body := [] }
  maskCapture := true
  maskWarnings := true
  maskSchedule := true
  warningsChanged := false
  capCond := false
  schedCond := false

/-- Nothing is on its way. -/
def InFlight.empty : InFlight where
  postAgu := []
  postDmon := []
  postSvc := []
  fallbackAgu := false
  fallbackAnch := false
  fallbackDmon := []
  duplicates := []
  roundStart := []
  completion := []
  handOffs := []
  toDmon := []
  dissent := []
  rebase := []
  stepAgu := []
  stepDmon := []
  stepAnch := []
  stepCapu := []
  stepMsch := []
  warn := []

/-- The part right after a full reset that read these straps (R16, R37, R61, R86, R108, R120, R142, R160, R177). -/
def State.resetWith (straps : Straps) : State where
  osc := { selection := .primary, tick := 0 }
  eclk := Eclk.reset
  span := Span.reset
  ptab := Vector.replicate 32 PeerRecord.reset
  agu := Agu.reset
  dmon := Dmon.reset
  anch := Anch.reset
  capu := Capu.reset
  msch := Msch.reset
  svc := Svc.reset straps
  net := InFlight.empty
  freeDraws := 0
  pending := []

/-- The part right after a full reset. The straps are wired on the card; here they all read 0 (DESIGN CHOICE, log entry 8). -/
def State.reset : State := State.resetWith { stn := 0, ft := 0 }

end Sys2Proof.Machine
end

