-- ==== Sys2Proof/Machine/Ops.lean ====
section
/-! DEFINITION. The named operations that several commands share: the manual's arithmetic, reading the clock and the own
uncertainty, sending and taking notices and postings, the warning list, a step of the clock, and taking a request at the
service port. -/

namespace Sys2Proof.Machine

/-! ## The manual's arithmetic (00_scope.md, Conventions) -/

/-- Ceil of a quotient of whole numbers. -/
def ceilDiv (a b : Nat) : Nat := (a + (b - 1)) / b

/-- A quotient rounded half away from zero. -/
def roundHalfAway (num : Int) (den : Nat) : Int :=
  if num < 0 then -(((2 * num.natAbs + den) / (2 * den) : Nat) : Int) else (((2 * num.natAbs + den) / (2 * den) : Nat) : Int)

/-- Clamped to [lo, hi]. -/
def clampInt (lo hi x : Int) : Int := if x < lo then lo else if hi < x then hi else x

/-- Clamped to [lo, hi], for values that are never negative. -/
def clampNat (lo hi x : Nat) : Nat := if x < lo then lo else if hi < x then hi else x

/-- Saturating at ±limit. -/
def satAbs (limit x : Int) : Int := clampInt (-limit) limit x

/-- Saturating at UNBOUNDED, as every uncertainty does. -/
def satUnc (x : Nat) : Nat := min Config.unbounded x

/-- R5: the ticks for which a duration in ns runs in tick time. -/
def ticksOfNs (d : Nat) : Nat := ceilDiv d Config.nsPerTick

/-- Every member of a table changed by one function. -/
def mapAll {α : Type} {n : Nat} (f : α → α) (v : Vector α n) : Vector α n := Vector.ofFn fun i => f v[i]

/-- Every member of a table changed by a function of its number. -/
def mapNumbered {α : Type} {n : Nat} (f : Fin n → α → α) (v : Vector α n) : Vector α n := Vector.ofFn fun i => f i v[i]

/-- The station numbers in ascending order. -/
def stations : List Station := List.finRange 32

/-! ## What the five round periods are (R5, R32, R44) -/

/-- A round period in ns. -/
def Period.ns : Period → Nat
  | .ms125 => 125000000
  | .ms250 => 250000000
  | .ms500 => 500000000
  | .ms1000 => 1000000000
  | .ms2000 => 2000000000

/-- A round period in ms (R39, R181). -/
def Period.ms : Period → Nat
  | .ms125 => 125
  | .ms250 => 250
  | .ms500 => 500
  | .ms1000 => 1000
  | .ms2000 => 2000

/-- A round period in ticks (R5, R44). -/
def Period.ticks (p : Period) : Nat := ticksOfNs p.ns

/-- R32: the interval code. -/
def Period.code : Period → Nat
  | .ms125 => 0
  | .ms250 => 1
  | .ms500 => 2
  | .ms1000 => 3
  | .ms2000 => 4

/-- R32: the round period an interval code names. -/
def periodOfCode : Nat → Option Period
  | 0 => some .ms125
  | 1 => some .ms250
  | 2 => some .ms500
  | 3 => some .ms1000
  | 4 => some .ms2000
  | _ => none

/-! ## Readings -/

/-- R161: the fault tolerance that the strap code gives. -/
def faultTolerance (ft : BitVec 2) : Nat := if ft = 0 then 1 else ft.toNat

/-- R6: the clock in ns, which is what a block that reads the clock or stamps an event takes. -/
def clockNs (s : State) : Nat := s.eclk.secs * Config.nsPerSecond + s.eclk.ns

/-- The clock as it reads to CAPU or MSCH while step notices are on their way to it: the value without their corrections, which
on the boundary tick is the boundary value b (R128, R134, R148, log entry 11). -/
def clockLess (onWay : List StepNotice) (s : State) : Nat := ((clockNs s : Int) - (onWay.map StepNotice.c).sum).toNat

/-- R134, R148: is a step notice of an earlier tick still on its way? CAPU and MSCH take it before they stamp, test or fire on
this one. -/
def overdueNotice (onWay : List StepNotice) (s : State) : Bool := onWay.any fun n => n.tick ≠ s.osc.tick

/-- The clock as CAPU reads it (R128, R132). -/
def capuClock (s : State) : Nat := clockLess s.net.stepCapu s

/-- The clock as MSCH reads it (R148). -/
def mschClock (s : State) : Nat := clockLess s.net.stepMsch s

/-- R9: the phase total in whole ns, truncated. -/
def phaseTotalNs (s : State) : Int := s.eclk.phaseTotal.tdiv Config.unitsPerNs

/-- R8: the slew-limit units of a slew limit in ppm. -/
def slewUnits (ppm : Nat) : Nat := ppm * Config.nominalIncrement / 1000000

/-- R3: the effective own tolerance in ppm, as a block that has or has not taken the fallback notice reads it. -/
def effectiveTolerance (onBackup : Bool) (s : State) : Nat :=
  if onBackup then Config.backupTolerance else s.svc.image.ownTol

/-- R66: the growth of U over this many ticks at this tolerance. -/
def uncertaintyGrowth (ticks tolerance : Nat) : Nat := ceilDiv (ticks * Config.nsPerTick * tolerance) 1000000

/-- R64, R66: the own uncertainty U at the present tick; UNBOUNDED while UNSET is set. -/
def ownU (s : State) : Nat :=
  if s.agu.unset then Config.unbounded
  else satUnc (s.agu.base + uncertaintyGrowth (s.osc.tick - s.agu.baseTick) (effectiveTolerance s.agu.onBackup s))

/-- R42: the attributes behind a record's profile. A record without one (before START) is read by the default profile (log
entry 24). -/
def profileAttrs (img : Image) : Option ProfileSel → ProfileAttrs
  | some (.window w) => img.windows[w].attrs
  | some .dflt => img.dflt
  | none => img.dflt

/-- R44: the half-width H in ns of a beat window: the stated interval times 1/16, 1/8, 1/4 or 1/2. -/
def beatHalfWidth (p : Period) (accept : Nat) : Nat := p.ns / 2 ^ (4 - accept)

/-- R5, R46, R47: from a scheduled arrival or a bar expiry to the silence expiry it sets. -/
def silenceSpan (p : Period) (accept : Nat) : Nat := 4 * p.ticks + ticksOfNs (beatHalfWidth p accept)

/-! ## Changing one block -/

/-- Change ECLK. -/
def State.onEclk (f : Eclk → Eclk) (s : State) : State := { s with eclk := f s.eclk }

/-- Change SPAN. -/
def State.onSpan (f : Span → Span) (s : State) : State := { s with span := f s.span }

/-- Change AGU. -/
def State.onAgu (f : Agu → Agu) (s : State) : State := { s with agu := f s.agu }

/-- Change DMON. -/
def State.onDmon (f : Dmon → Dmon) (s : State) : State := { s with dmon := f s.dmon }

/-- Change ANCH. -/
def State.onAnch (f : Anch → Anch) (s : State) : State := { s with anch := f s.anch }

/-- Change CAPU. -/
def State.onCapu (f : Capu → Capu) (s : State) : State := { s with capu := f s.capu }

/-- Change MSCH. -/
def State.onMsch (f : Msch → Msch) (s : State) : State := { s with msch := f s.msch }

/-- Change SVC. -/
def State.onSvc (f : Svc → Svc) (s : State) : State := { s with svc := f s.svc }

/-- Change what is on its way. -/
def State.onNet (f : InFlight → InFlight) (s : State) : State := { s with net := f s.net }

/-- Put this record into the peer table. -/
def State.setPeer (p : Station) (r : PeerRecord) (s : State) : State := { s with ptab := s.ptab.set p r }

/-- Put this record into the drift table. -/
def State.setDrift (p : Station) (r : DriftRecord) (s : State) : State :=
  s.onDmon fun m => { m with drift := m.drift.set p r }

/-! ## Sending -/

/-- A block posts to ECLK (R11). -/
def State.post (src : Poster) (p : Posting) (s : State) : State :=
  s.onNet fun n =>
    match src with
    | .agu => { n with postAgu := n.postAgu ++ [p] }
    | .dmon => { n with postDmon := n.postDmon ++ [p] }
    | .svc => { n with postSvc := n.postSvc ++ [p] }

/-- R14: ECLK sends the step notice to its five recipients, on the boundary tick. -/
def State.sendStep (c : Int) (s : State) : State :=
  s.onNet fun n =>
    { n with
      stepAgu := n.stepAgu ++ [c]
      stepDmon := n.stepDmon ++ [c]
      stepAnch := n.stepAnch ++ [c]
      stepCapu := n.stepCapu ++ [{ tick := s.osc.tick, c := c }]
      stepMsch := n.stepMsch ++ [{ tick := s.osc.tick, c := c }] }

/-- PTAB sends DMON these notices, in this order (R46, R55, R56). -/
def State.sendDmon (ns : List PeerNotice) (s : State) : State := s.onNet fun n => { n with toDmon := n.toDmon ++ ns }

/-- A block sends DMON raise and removal notices, in this order (R103, R104). -/
def State.sendWarn (ws : List WarnNotice) (s : State) : State := s.onNet fun n => { n with warn := n.warn ++ ws }

/-! ## The warning list (R102 to R106) -/

/-- R105: the warning kind behind a notice. -/
def noticeWarning : NoticeKind → WarningKind
  | .selfAccused => .selfAccused
  | .noAgreement => .noAgreement
  | .anchorLost => .anchorLost
  | .overflow => .overflow

/-- Does the warning have this kind and station? -/
def Warning.isFor (k : WarningKind) (subj : Subject) (w : Warning) : Bool := w.kind = k && w.subject = subj

/-- R103: a new warning goes after every warning raised no later than it and before every warning raised later. -/
def insertWarning (w : Warning) : List Warning → List Warning
  | [] => [w]
  | x :: xs => if w.time < x.time then w :: x :: xs else x :: insertWarning w xs

/-- R103, R106: DMON takes a raise. A warning that is present stays as it is. -/
def State.raiseWarning (w : Warning) (s : State) : State :=
  if s.dmon.warnings.any (Warning.isFor w.kind w.subject) then s
  else
    (s.onDmon fun m => { m with warnings := insertWarning w m.warnings }).onSvc fun v => { v with warningsChanged := true }

/-- R104, R106: DMON takes a removal. -/
def State.removeWarning (k : WarningKind) (subj : Subject) (s : State) : State :=
  if s.dmon.warnings.any (Warning.isFor k subj) then
    (s.onDmon fun m => { m with warnings := m.warnings.filter fun w => !(Warning.isFor k subj w) }).onSvc
      fun v => { v with warningsChanged := true }
  else s

/-- The kind that a notice on its way is about. -/
def WarnNotice.kind : WarnNotice → NoticeKind
  | .raise k _ => k
  | .remove k => k

/-- The oldest notice of a kind, and the notices without it. -/
def takeNotice (k : NoticeKind) : List WarnNotice → Option (WarnNotice × List WarnNotice)
  | [] => none
  | w :: ws =>
    if w.kind = k then some (w, ws) else (takeNotice k ws).map fun r => (r.1, w :: r.2)

/-! ## Advancing the clock and stepping it (R7, R10, R12, R13) -/

/-- R7: the increment of a tick, in units. -/
def increment (e : Eclk) : Int := (Config.nominalIncrement : Int) + e.trim + e.phase

/-- R7: the whole ns of a tick's advance. -/
def advanceWhole (e : Eclk) : Int := ((e.sub : Int) + increment e) / Config.unitsPerNs

/-- R7, R9: a tick's advance of the clock, and of the phase total by the phase term used in it. -/
def advanceClock (e : Eclk) : Eclk :=
  let sub' := (((e.sub : Int) + increment e) % Config.unitsPerNs).toNat
  let total := ((e.ns : Int) + advanceWhole e).toNat
  let ns' := if Config.nsPerSecond ≤ total then total - Config.nsPerSecond else total
  let secs' := if Config.nsPerSecond ≤ total then e.secs + 1 else e.secs
  if Config.maxSeconds < secs' then
    { e with secs := Config.maxSeconds, ns := Config.nsPerSecond - 1, sub := sub', phaseTotal := e.phaseTotal + e.phase }
  else { e with secs := secs', ns := ns', sub := sub', phaseTotal := e.phaseTotal + e.phase }

/-- R10: does this tick's advance carry the ns field to or past a multiple of 1,000,000? -/
def isBoundary (e : Eclk) : Bool :=
  (e.ns : Int) / Config.boundaryNs < ((e.ns : Int) + advanceWhole e) / Config.boundaryNs

/-- R13: where a step of C puts a clock that stands at b. -/
def steppedClock (b : Nat) (c : Int) : Nat := (clampInt 0 Config.maxClock ((b : Int) + c)).toNat

/-- R13: the correction that a step of C applies at b. -/
def appliedStep (b : Nat) (c : Int) : Int := (steppedClock b c : Int) - b

/-- R12: at an update boundary a pending trim value becomes the trim term. -/
def applyTrim (e : Eclk) : Eclk :=
  match e.trimSlot with
  | some v => { e with trim := v, trimSlot := none }
  | none => e

/-- R12: at an update boundary without a pending step, a pending phase value becomes the phase term. -/
def applyPhase (e : Eclk) : Eclk :=
  match e.phaseSlot with
  | some v => { e with phase := v, phaseSlot := none }
  | none => e

/-- R13: at an update boundary with a pending step C, from the boundary value b. -/
def applyStep (b : Nat) (c : Int) (e : Eclk) : Eclk :=
  { e with
    secs := steppedClock b c / Config.nsPerSecond
    ns := steppedClock b c % Config.nsPerSecond
    phase := 0
    phaseSlot := none
    stepSlot := none }

/-- R12, R13, R14: what ECLK applies at an update boundary, after the boundary tick's own advance. -/
def State.updateBoundary (s : State) : State :=
  match s.eclk.stepSlot with
  | some c =>
    (s.onEclk fun e => applyStep (clockNs s) c (applyTrim e)).sendStep (appliedStep (clockNs s) c)
  | none => s.onEclk fun e => applyPhase (applyTrim e)

/-! ## Leaving ADMITTED (R47, R56) -/

/-- R47: bar an ADMITTED record at this tick. -/
def barRecord (tick : Tick) (r : PeerRecord) : PeerRecord :=
  { r with
    link := .barred
    barExpiry := some (tick + 16 * (r.interval.map Period.ticks).getD 0)
    inBeat := 0
    dissent := 0
    silenceExpiry := none }

/-! ## Requests at the service port (R168, R169) -/

/-- R180: the bytes that open the body of every response to a request: the tick counter when SVC took it. -/
def tickBytes (s : State) : List Byte := beBytes 8 s.osc.tick

/-- R169: a request whose transaction ends while another is in progress is discarded, and the overrun mark is set. -/
def State.overrunMark (s : State) : State := s.onSvc fun v => { v with buffer := { v.buffer with overrun := true } }

/-- R168, steps 1 and 2: the request in progress, and NOT_READY in the buffer. -/
def State.beginRequest (code : Byte) (s : State) : State :=
  s.onSvc fun v =>
    { v with request := some code, buffer := { status := .notReady, code := code, overrun := false, body := [] } }

/-- R168, step 3 done: the full response waits to be placed. -/
def State.answer (status : Status) (body : List Byte) (s : State) : State :=
  s.onSvc fun v => { v with response := some { status := status, body := body } }

/-- R168, R169: a request's transaction ends. With none in progress SVC takes it: `act` reads and changes the blocks and gives
the status and the body after the tick. With one in progress it is discarded. -/
def takeRequest (code : Byte) (act : State → State × Status × List Byte) (s : State) : State :=
  match s.svc.request with
  | some _ => s.overrunMark
  | none =>
    let r := act (s.beginRequest code)
    r.1.answer r.2.1 (tickBytes s ++ r.2.2)

/-- R167: the bytes SVC shifts out in a transaction of `n` bytes: the buffer as it stood at chip select, 0 beyond its end, and
for NOT_READY 0 after the first byte. -/
def shiftOut (header : List Byte) (b : Buffer) (n : Nat) : List Byte :=
  let whole := if b.status = .notReady then header.take 1 else header ++ b.body
  (whole ++ List.replicate n 0x00).take n

end Sys2Proof.Machine
end

