-- ==== Sys2Proof/Machine/Flags.lean ====
section
/-! DEFINITION. Every flag and condition the manual computes from the state: the flags of a beacon, of a capture entry and of a
DATE, the head standing, the three attention conditions and the attention line. -/

namespace Sys2Proof.Machine

/-- R118: ANCHORED, while the anchor state is QUALIFIED. -/
def anchoredFlag (s : State) : Bool := s.anch.state = .qualified

/-- R33: the six flags of a beacon, as they stand at its launch point. -/
def beaconFlagsNow (s : State) : BeaconFlags where
  anchored := anchoredFlag s
  lone := s.agu.sync = .lone
  holdover := s.agu.sync = .holdover
  humble := s.agu.humble
  unset := s.agu.unset
  stepped := s.agu.stepped

/-- R181: a station flags byte: bit 3 UNSET, bit 2 HUMBLE, bit 1 MUTED, bit 0 ANCHORED. -/
def stationFlagsByte (unset humble muted anchored : Bool) : Byte :=
  BitVec.ofNat 8 (8 * unset.toNat + 4 * humble.toNat + 2 * muted.toNat + anchored.toNat)

/-- R140: is the head of this queue SETTLED or OVERDUE? -/
def headReady : List CapEntry → Bool
  | [] => false
  | e :: _ => e.state ≠ .pending

/-- R159: is any entry's completion flag set? -/
def anyCompletion (m : Msch) : Bool := m.entries.toList.any fun e => e.completion

/-- R175, R180: three enables or conditions as a byte: bit 0 capture, bit 1 warnings, bit 2 schedule. -/
def attentionByte (capture warnings schedule : Bool) : Byte :=
  BitVec.ofNat 8 (capture.toNat + 2 * warnings.toNat + 4 * schedule.toNat)

/-- R175: the mask as a byte. -/
def maskByte (v : Svc) : Byte := attentionByte v.maskCapture v.maskWarnings v.maskSchedule

/-- R175: the conditions that hold, as a byte. -/
def conditionsByte (v : Svc) : Byte := attentionByte v.capCond v.warningsChanged v.schedCond

/-- R176: the attention line is asserted while at least one enabled condition holds. -/
def attentionLine (s : State) : Bool :=
  (s.svc.maskCapture && s.svc.capCond) || (s.svc.maskWarnings && s.svc.warningsChanged)
    || (s.svc.maskSchedule && s.svc.schedCond)

/-- R25, R28: the own driver is sending: SENDING, and no mismatch has ended the frame. -/
def driverSending (sp : Span) : Bool := sp.tx = .sending && !sp.mismatched

/-- R162: the round period in force. -/
def ownPeriod (s : State) : Period := s.svc.image.period

/-- R30: the deferral limit, one eighth of the own round period, in ticks. -/
def deferralLimitTicks (s : State) : Nat := ticksOfNs ((ownPeriod s).ns / 8)

/-- R26: the slot offset in ticks, ceil(station number × round period / 32 / 40). -/
def slotOffset (s : State) : Nat := ceilDiv (s.svc.station.val * (ownPeriod s).ns) (32 * Config.nsPerTick)

/-- R27, R29: the required idle run. -/
def requiredIdleRun (station : Station) (attempts : Nat) : Nat := 32 + (station.val + 1) * 32 * attempts

/-- R123: the settle limit in ticks. -/
def settleLimitTicks (s : State) : Nat := ticksOfNs (s.svc.image.settleMs * 1000000)

/-- R92: the review period in ticks. -/
def reviewTicks (s : State) : Nat := ticksOfNs (s.svc.image.reviewS * 1000000000)

/-- R3, R112: the half-width in ticks of a window that ANCH opens now. -/
def anchorHalfTicks (s : State) : Nat := ticksOfNs (effectiveTolerance s.anch.onBackup s * 1000 + 50000)

/-- R122: does the edge match the setting? -/
def EdgeSetting.matches : EdgeSetting → Edge → Bool
  | .rising, e => e = .rising
  | .falling, e => e = .falling
  | .both, _ => true

/-- R121: the edge that a new sample shows against the level last sampled. -/
def edgeFound (prev : Option Bool) (now : Bool) : Option Edge :=
  match prev with
  | none => none
  | some was => if now && !was then some .rising else if was && !now then some .falling else none

end Sys2Proof.Machine
end

