-- ==== Sys2Proof/Machine/Agreement.lean ====
section
/-! DEFINITION. AGU (chapter 4): END_OF_LISTEN, ROUND_CLOSE and the notices AGU takes. -/

namespace Sys2Proof.Machine

/-! ## The intervals of a close (R71 to R73) -/

/-- An interval taken into a round, and whose it is. -/
structure Interval where
  who : Station
  lo : Int
  hi : Int
deriving DecidableEq, Repr

/-- R71: the aged bound ε of an observation at this tick. -/
def agedBound (tick : Tick) (aging : Nat) (o : Observation) : Nat :=
  satUnc (o.eps0 + ceilDiv ((tick - o.arrivalTick) * Config.nsPerTick * aging) 1000000)

/-- R71, R72: the interval of a peer, if it is eligible. -/
def peerInterval (s : State) (p : Station) : Option Interval :=
  let r := s.ptab[p]
  match r.link, r.obs with
  | .admitted, some o =>
    let eps := agedBound s.osc.tick (profileAttrs s.svc.image r.profile).aging o
    if s.dmon.drift[p].verdict ≠ .drifting && eps < Config.unbounded then
      some { who := p, lo := o.theta - eps, hi := o.theta + eps }
    else none
  | _, _ => none

/-- R73: the own interval, or none. -/
def ownInterval (s : State) : Option Interval :=
  if anchoredFlag s then
    let a := s.anch.alpha.getD 0
    some { who := s.svc.station, lo := a - (s.anch.uRef + 80 : Nat), hi := a + (s.anch.uRef + 80 : Nat) }
  else if s.agu.humble then none
  else if ownU s < Config.unbounded then some { who := s.svc.station, lo := -(ownU s : Int), hi := ownU s }
  else none

/-- R72, R73: the intervals taken, in ascending station order. -/
def takenIntervals (s : State) : List Interval :=
  stations.filterMap fun p => if p = s.svc.station then ownInterval s else peerInterval s p

/-- R72: how many peers are eligible. -/
def eligiblePeers (s : State) : Nat :=
  (stations.filter fun p => p ≠ s.svc.station && (peerInterval s p).isSome).length

/-! ## The sweep (R74) -/

/-- An endpoint: its value, and whether it is an end. -/
abbrev Endpoint := Int × Bool

/-- R74, step 1: by value, a start before an end of the same value. -/
def endpointLe (x y : Endpoint) : Bool := x.1 < y.1 || (x.1 = y.1 && (!x.2 || y.2))

/-- Put an endpoint into its place. -/
def insertEndpoint (x : Endpoint) : List Endpoint → List Endpoint
  | [] => [x]
  | y :: ys => if endpointLe x y then x :: y :: ys else y :: insertEndpoint x ys

/-- R74, step 1: the sorted endpoints of the intervals. -/
def sortedEndpoints (is : List Interval) : List Endpoint :=
  is.foldr (fun i acc => insertEndpoint (i.lo, false) (insertEndpoint (i.hi, true) acc)) []

/-- R74, steps 2 and 3: the largest count of open intervals, from this count on. -/
def maxCount : Nat → List Endpoint → Nat
  | count, [] => count
  | count, (_, true) :: rest => max count (maxCount (count - 1) rest)
  | count, (_, false) :: rest => max count (maxCount (count + 1) rest)

/-- R74, step 3: the value of the next end. -/
def nextEnd : List Endpoint → Option Int
  | [] => none
  | (v, true) :: _ => some v
  | (_, false) :: rest => nextEnd rest

/-- R74, step 3: the regions of count `c`, from this count on. -/
def regionsFrom (c : Nat) : Nat → List Endpoint → List (Int × Int)
  | _, [] => []
  | count, (_, true) :: rest => regionsFrom c (count - 1) rest
  | count, (v, false) :: rest =>
    match nextEnd rest with
    | some b => if count + 1 = c then (v, b) :: regionsFrom c (count + 1) rest else regionsFrom c (count + 1) rest
    | none => regionsFrom c (count + 1) rest

/-- R74, step 4: is the first region taken before the second? -/
def nearerRegion (x y : Int × Int) : Bool :=
  (x.1 + x.2).natAbs < (y.1 + y.2).natAbs || ((x.1 + x.2).natAbs = (y.1 + y.2).natAbs && x.1 ≤ y.1)

/-- R74, step 4: the region nearest 0, the lower of two equally near. -/
def pickRegion : List (Int × Int) → Option (Int × Int)
  | [] => none
  | r :: rs =>
    match pickRegion rs with
    | none => some r
    | some q => some (if nearerRegion r q then r else q)

/-- R74: c and the region. -/
def sweep (is : List Interval) : Nat × Option (Int × Int) :=
  let pts := sortedEndpoints is
  let c := maxCount 0 pts
  (c, pickRegion (regionsFrom c 0 pts))

/-! ## Outcome and correction (R75 to R79) -/

/-- R75: the outcome of n intervals of which c overlap, at fault tolerance F. -/
def roundOutcome (f n c : Nat) : RoundOutcome :=
  if n < 2 * f + 1 then .sparse else if n ≤ c + f then .agreed else .split

/-- R77: the phase value that slews C over one round, clamped to the slew-limit units. -/
def slewPhase (img : Image) (c : Int) : Int :=
  satAbs (slewUnits img.slewLimit) (roundHalfAway (c * Config.nominalIncrement) img.period.ns)

/-- R77: must C be corrected by a step? -/
def stepNeeded (s : State) (c : Int) : Bool := s.agu.unset || s.svc.image.stepThreshold < c.natAbs

/-- What a close decides to post, and the record's C, h, application and base (R77 to R79, R84). -/
structure Correction where
  posting : Posting
  application : Application
  corr : Option Int
  h : Option Nat
  base : Option Nat
deriving DecidableEq, Repr

/-- R77: half the region's width, ceiled. -/
def halfWidth (a b : Int) : Nat := ceilDiv (b - a).toNat 2

/-- R77: the correction of an AGREED close. -/
def agreedCorrection (s : State) (a b : Int) : Correction :=
  let c := (a + b).tdiv 2
  let h := halfWidth a b
  if stepNeeded s c then
    { posting := .step c, application := .step, corr := some c, h := some h, base := some (satUnc (h + 80)) }
  else
    { posting := .phase (slewPhase s.svc.image c), application := .slew, corr := some c, h := some h
      base := some (satUnc (c.natAbs + h + 80)) }

/-- R78: the correction of an anchor follow. -/
def anchorCorrection (s : State) : Correction :=
  let c := s.anch.alpha.getD 0
  { posting := if stepNeeded s c then .step c else .phase (slewPhase s.svc.image c)
    application := .anchorFollow
    corr := some c
    h := none
    base := some (satUnc (c.natAbs + s.anch.uRef + 80)) }

/-- R79: no correction. -/
def noCorrection : Correction where
  posting := .phase 0
  application := .none
  corr := none
  h := none
  base := none

/-- R77 to R79: which correction the close makes. -/
def closeCorrection (s : State) (outcome : RoundOutcome) (region : Option (Int × Int)) : Correction :=
  match outcome, region with
  | .agreed, some (a, b) => agreedCorrection s a b
  | _, _ => if anchoredFlag s then anchorCorrection s else noCorrection

/-- R76: the sync state after the close. -/
def syncAfter (outcome : RoundOutcome) (eligible : Nat) : SyncState :=
  match outcome with
  | .agreed => .agreed
  | _ => if eligible = 0 then .lone else .holdover

/-! ## Dissent, HUMBLE and the disagreement run (R80 to R82) -/

/-- R80: does the interval meet the region? -/
def meetsRegion (region : Int × Int) (i : Interval) : Bool := region.1 ≤ i.hi && i.lo ≤ region.2

/-- R80: the two lists of a dissent notice; an own interval that does not meet the region is in neither. -/
def dissentOf (own : Station) (region : Int × Int) (is : List Interval) : Dissent where
  dissenters := (is.filter fun i => !(meetsRegion region i) && i.who ≠ own).map Interval.who
  agreeing := (is.filter (meetsRegion region)).map Interval.who

/-- R81: A, the number of ADMITTED peers. -/
def admittedPeers (s : State) : Nat :=
  (stations.filter fun p => p ≠ s.svc.station && s.ptab[p].link = .admitted).length

/-- R81: the accusers. -/
def accusers (s : State) : Nat :=
  (stations.filter fun p => p ≠ s.svc.station && s.ptab[p].link = .admitted && s.ptab[p].accusesMe).length

/-- R81: the entry condition. -/
def accusedEntry (s : State) : Bool := 2 ≤ accusers s && admittedPeers s < 2 * accusers s

/-- R81: the leave condition. -/
def accusedLeave (s : State) : Bool := 4 * accusers s ≤ admittedPeers s

/-- R81: HUMBLE after the close. -/
def humbleAfter (s : State) : Bool :=
  if accusedEntry s then (if anchoredFlag s then s.agu.humble else true)
  else if accusedLeave s then false
  else s.agu.humble

/-- R81: the notices about SELF_ACCUSED. -/
def accusedNotices (s : State) : List WarnNotice :=
  if accusedEntry s then [.raise .selfAccused (clockNs s)] else if accusedLeave s then [.remove .selfAccused] else []

/-- R82: the disagreement run after the close. -/
def runAfter (outcome : RoundOutcome) (eligible run : Nat) : Nat :=
  match outcome with
  | .agreed => 0
  | _ => if eligible = 0 then run else min Config.countLimit (run + 1)

/-- R82: the notices about NO_AGREEMENT. -/
def disagreementNotices (outcome : RoundOutcome) (eligible run time : Nat) : List WarnNotice :=
  match outcome with
  | .agreed => [.remove .noAgreement]
  | _ => if eligible = 0 then [] else if 4 ≤ run + 1 then [.raise .noAgreement time] else []

/-! ## ROUND_CLOSE (R69, R70, R83, R84) -/

/-- What a close finds in its snapshot: the intervals, c, the region, the outcome and the correction. -/
structure Close where
  taken : List Interval
  c : Nat
  region : Option (Int × Int)
  outcome : RoundOutcome
  correction : Correction
  dissent : Option Dissent
deriving DecidableEq, Repr

/-- R70 to R80: the stages of a close. -/
def closeOf (s : State) : Close :=
  let taken := takenIntervals s
  let sw := sweep taken
  let outcome := roundOutcome (faultTolerance s.svc.ftCode) taken.length sw.1
  { taken := taken
    c := sw.1
    region := sw.2
    outcome := outcome
    correction := closeCorrection s outcome sw.2
    dissent :=
      match outcome, sw.2 with
      | .agreed, some r => some (dissentOf s.svc.station r taken)
      | _, _ => none }

/-- R84: the agreement record of a close. -/
def recordOf (s : State) (k : Close) : AgreementRecord where
  outcome := k.outcome
  close := some (clockNs s, s.osc.tick)
  n := some k.taken.length
  c := some k.c
  region := k.region
  corr := k.correction.corr
  h := k.correction.h
  application := k.correction.application
  posted := some k.correction.posting
  participants := k.taken.map Interval.who
  dissenters := (k.dissent.map Dissent.dissenters).getD []
  newBase := some (k.correction.base.getD s.agu.base)
  baseSet := k.correction.base.isSome

/-- R69, R76 to R79, R81, R82, R84: what changes within AGU at the close tick. -/
def aguAfterClose (s : State) (k : Close) : Agu :=
  { s.agu with
    sync := syncAfter k.outcome (eligiblePeers s)
    unset := if k.correction.base.isSome then false else s.agu.unset
    humble := humbleAfter s
    base := k.correction.base.getD s.agu.base
    baseTick := if k.correction.base.isSome then s.osc.tick else s.agu.baseTick
    roundTimer := some (s.osc.tick + (ownPeriod s).ticks)
    run := runAfter k.outcome (eligiblePeers s) s.agu.run
    record := recordOf s k }

/-- R83: what a close sends PTAB, SPAN and DMON. -/
def netAfterClose (s : State) (k : Close) (n : InFlight) : InFlight :=
  { n with
    dissent := n.dissent ++ k.dissent.toList
    roundStart := n.roundStart ++ [{ tick := s.osc.tick, first := false }]
    warn := n.warn ++ accusedNotices s ++ disagreementNotices k.outcome (eligiblePeers s) s.agu.run (clockNs s) }

/-- R69 to R84: a round close taken now. -/
def closeRound (s : State) : State :=
  let k := closeOf s
  (({ s with agu := aguAfterClose s k }.post .agu k.correction.posting).onNet (netAfterClose s k))

/-- Has this timer been reached? -/
def timerReached (timer : Option Tick) (s : State) : Bool :=
  match timer with
  | none => false
  | some t => t ≤ s.osc.tick

/-- ROUND_CLOSE (R69, R70). -/
def execRoundClose (s : State) : Host.Outcome State Fault Refusal :=
  if timerReached s.agu.roundTimer s then .next (closeRound s) else .next s

/-- END_OF_LISTEN (R63). -/
def execEndOfListen (s : State) : Host.Outcome State Fault Refusal :=
  if s.agu.sync = .listen && timerReached s.agu.endListen s then
    .next
      ((s.onAgu fun a =>
          { a with sync := .lone, endListen := none, roundTimer := some (s.osc.tick + (ownPeriod s).ticks) }).onNet
        fun n => { n with roundStart := n.roundStart ++ [{ tick := s.osc.tick, first := true }] })
  else .next s

/-! ## The notices AGU takes (R3, R34, R65) -/

/-- FALLBACK_NOTICE_AT_AGU (R3, R67): U at this tick, at the old tolerance, is the new base, and U grows at 1,000 ppm from now. -/
def execFallbackNoticeAtAgu (s : State) : Host.Outcome State Fault Refusal :=
  if s.net.fallbackAgu then
    .next
      ((s.onNet fun n => { n with fallbackAgu := false }).onAgu fun a =>
        { a with base := ownU s, baseTick := s.osc.tick, onBackup := true })
  else .next s

/-- STEP_NOTICE_AT_AGU (R65): the rebase notice goes on to PTAB. -/
def execStepNoticeAtAgu (s : State) : Host.Outcome State Fault Refusal :=
  match s.net.stepAgu with
  | [] => .next s
  | c :: rest =>
    .next
      ((s.onNet fun n => { n with stepAgu := rest, rebase := n.rebase ++ [c] }).onAgu fun a =>
        { a with stepped := true, stepTick := some s.osc.tick })

/-- R34, R65: was a step notice taken at or after this launch tick? -/
def steppedSince (launch : Tick) : Option Tick → Bool
  | none => false
  | some t => launch ≤ t

/-- COMPLETION_NOTICE (R34, R65). -/
def execCompletionNotice (s : State) : Host.Outcome State Fault Refusal :=
  match s.net.completion with
  | [] => .next s
  | launch :: rest =>
    .next
      ((s.onNet fun n => { n with completion := rest }).onAgu fun a =>
        { a with stepped := a.stepped && steppedSince launch a.stepTick })

end Sys2Proof.Machine
end

