-- ==== Sys2Proof/Machine/Anchor.lean ====
section
/-! DEFINITION. ANCH (chapter 6): pulses, window ends, and the notices ANCH takes. -/

namespace Sys2Proof.Machine

/-- R111, R113, R114: s advances by 1, saturating at 2^48 - 1 (log entry 21). -/
def nextSecond (s : Nat) : Nat := min Config.maxSeconds (s + 1)

/-- R111, R113, R115: the next window, centred `Config.anchorPeriod` ticks after this tick. -/
def windowAfter (tick half : Nat) : AnchorWindow where
  expected := tick + Config.anchorPeriod
  half := half
  missed := false

/-- R111: α of a pulse marked as second `mark` with the stamp τ. -/
def alphaOf (mark tau : Nat) : Int := (mark : Int) * Config.nsPerSecond - tau

/-- R111: the lead pulse `p`, marked as second `mark`. -/
def leadPulse (p : Pulse) (half mark : Nat) (a : Anch) : Anch :=
  { a with alpha := some (alphaOf mark p.stamp), s := some (nextSecond mark), window := some (windowAfter p.tick half) }

/-- R113: what every good pulse does, before it counts. -/
def goodPulse (p : Pulse) (half : Nat) (a : Anch) : Anch :=
  { a with
    alpha := some (alphaOf (a.s.getD 0) p.stamp)
    s := some (nextSecond (a.s.getD 0))
    lastGood := some p.tick
    window := some (windowAfter p.tick half) }

/-- R115: the second an early pulse in ARMED lies nearest to. -/
def nearestSecond (expected tick s : Nat) : Nat :=
  if expected - tick ≤ 12500000 then s else if s = 0 then Config.maxSeconds else s - 1

/-- R116: ANCH enters LOST. -/
def loseAnchor (a : Anch) : Anch := { a with state := .lost, window := none, miss := 0, good := 0 }

/-- R116: ANCH enters LOST and sends the raise of ANCHOR_LOST. -/
def State.lose (s : State) : State := (s.onAnch loseAnchor).sendWarn [.raise .anchorLost (clockNs s)]

/-- R113: a good pulse in the open window. -/
def State.takeGoodPulse (p : Pulse) (s : State) : State :=
  let a := goodPulse p (anchorHalfTicks s) s.anch
  match s.anch.state with
  | .armed =>
    if 2 ≤ s.anch.good then
      ({ s with anch := { a with state := .qualified, miss := 0, good := 0 } }).sendWarn [.remove .anchorLost]
    else { s with anch := { a with good := s.anch.good + 1 } }
  | _ => { s with anch := { a with miss := 0 } }

/-- R115: an early pulse against the open window `w`. -/
def State.takeEarlyPulse (p : Pulse) (w : AnchorWindow) (s : State) : State :=
  match s.anch.state with
  | .armed =>
    s.onAnch fun a =>
      leadPulse p (anchorHalfTicks s) (nearestSecond w.expected p.tick (a.s.getD 0)) { a with good := 0 }
  | _ =>
    if w.missed then s
    else if 1 ≤ s.anch.miss then s.lose
    else s.onAnch fun a => { a with miss := a.miss + 1, window := some { w with missed := true } }

/-- R111, R113, R115: a pulse in ARMED or QUALIFIED, that is not past the open window. -/
def State.takePulse (p : Pulse) (s : State) : State :=
  match s.anch.window with
  | none =>
    match s.anch.state with
    | .armed => s.onAnch fun a => leadPulse p (anchorHalfTicks s) (a.s.getD 0) a
    | _ => s
  | some w => if p.tick + w.half < w.expected then s.takeEarlyPulse p w else s.takeGoodPulse p

/-- R114: a pulse past a window's last tick is taken after that window's end. -/
def pastWindow (p : Pulse) : Option AnchorWindow → Bool
  | none => false
  | some w => w.expected + w.half < p.tick

/-- PULSE (R109): ANCH takes the oldest pulse found and not yet taken (R117). In UNARMED and LOST it is ignored. -/
def execPulse (s : State) : Host.Outcome State Fault Refusal :=
  match s.anch.pulses with
  | [] => .next s
  | p :: rest =>
    let s' := s.onAnch fun a => { a with pulses := rest }
    match s.anch.state with
    | .unarmed => .next s'
    | .lost => .next s'
    | .armed => if pastWindow p s.anch.window then .next s else .next (s'.takePulse p)
    | .qualified => if pastWindow p s.anch.window then .next s else .next (s'.takePulse p)

/-- R114: the window `w` ends without a good pulse: s advances and the next window opens. -/
def closeWindow (half : Nat) (w : AnchorWindow) (a : Anch) : Anch :=
  { a with s := some (nextSecond (a.s.getD 0)), window := some (windowAfter w.expected half) }

/-- R114: the end of the window `w`, and what it counts. -/
def State.endWindow (w : AnchorWindow) (s : State) : State :=
  let next := s.onAnch (closeWindow (anchorHalfTicks s) w)
  if w.missed then next
  else
    match s.anch.state with
    | .armed => next.onAnch fun a => { a with good := 0 }
    | .qualified => if 1 ≤ s.anch.miss then next.lose else next.onAnch fun a => { a with miss := a.miss + 1 }
    | _ => next

/-- R114, R116: is the end of the open window reached, in ARMED or QUALIFIED? -/
def windowEnded (s : State) (w : AnchorWindow) : Bool :=
  (s.anch.state = .armed || s.anch.state = .qualified) && w.expected + w.half + 1 ≤ s.osc.tick

/-- WINDOW_END (R114). -/
def execWindowEnd (s : State) : Host.Outcome State Fault Refusal :=
  match s.anch.window with
  | none => .next s
  | some w => if windowEnded s w then .next (s.endWindow w) else .next s

/-- FALLBACK_NOTICE_AT_ANCH (R3, R112): a window already open keeps its half-width. -/
def execFallbackNoticeAtAnch (s : State) : Host.Outcome State Fault Refusal :=
  if s.net.fallbackAnch then
    .next ((s.onNet fun n => { n with fallbackAnch := false }).onAnch fun a => { a with onBackup := true })
  else .next s

/-- STEP_NOTICE_AT_ANCH (R117). -/
def execStepNoticeAtAnch (s : State) : Host.Outcome State Fault Refusal :=
  match s.net.stepAnch with
  | [] => .next s
  | c :: rest =>
    .next
      ((s.onNet fun n => { n with stepAnch := rest }).onAnch fun a => { a with alpha := a.alpha.map fun x => x - c })

end Sys2Proof.Machine
end

