-- ==== Sys2Proof/Machine/Capture.lean ====
section
/-! DEFINITION. CAPU (chapter 7): edges, guards, captures and followers, settling, OVERDUE, and the step notice. -/

namespace Sys2Proof.Machine

/-- R129: the queue holds at most this many entries. -/
abbrev queueLimit : Nat := 64

/-- R135: a timestamp saturates at ± the largest clock value. -/
def clampStamp (x : Int) : Int := satAbs Config.maxClock x

/-- Change the entry at this place of a queue. -/
def changeEntry (f : CapEntry → CapEntry) : Nat → List CapEntry → List CapEntry
  | _, [] => []
  | 0, e :: es => f e :: es
  | i + 1, e :: es => e :: changeEntry f i es

/-- R125, R131: one more follower; the count saturates at 255. -/
def addFollower (e : CapEntry) : CapEntry := { e with followers := min 255 (e.followers + 1) }

/-- R124, R125: is this tick inside the line's guard? The closing tick is outside it. -/
def insideGuard (tick : Tick) : Option LineGuard → Bool
  | none => false
  | some g => tick < g.closing

/-- R122, R125: the guard that a capture on this tick opens, linked to the entry at this place; a guard time of 0 opens none. -/
def openedGuard (tick : Tick) (setup : LineSetup) (place : Nat) : Option LineGuard :=
  if ticksOfNs setup.guardNs = 0 then none else some { closing := tick + ticksOfNs setup.guardNs, link := some place }

/-- R127, R128: the entry a capture on this line stores. -/
def newEntry (s : State) (l : CapLineNo) (e : Edge) : CapEntry where
  line := l
  edge := e
  tick := s.osc.tick
  ts := (capuClock s : Int)
  unc := satUnc (ownU s + 40)
  sync := s.agu.sync
  unset := s.agu.unset
  humble := s.agu.humble
  muted := s.span.mutedFlag
  anchored := anchoredFlag s
  osc := s.osc.selection
  label := s.capu.lines[l].latch
  followers := 0
  state := .pending
  rebased := 0

/-- Put this line's record into CAPU. -/
def Capu.setLine (l : CapLineNo) (x : CapLine) (c : Capu) : Capu := { c with lines := c.lines.set l x }

/-- R124 to R126, R129: a capture that finds room is stored; the latch is consumed and the guard opens. -/
def State.storeCapture (l : CapLineNo) (e : Edge) (s : State) : State :=
  s.onCapu fun c =>
    { c.setLine l
        { c.lines[l] with
          found := none
          latch := none
          guard := openedGuard s.osc.tick s.svc.image.lines[l] c.queue.length } with
      queue := c.queue ++ [newEntry s l e] }

/-- R130: a capture that finds the queue full is counted into the newest entry, opens the guard on it, and sends the raise of
OVERFLOW. -/
def State.overflowCapture (l : CapLineNo) (s : State) : State :=
  (s.onCapu fun c =>
      { c.setLine l
          { c.lines[l] with
            found := none
            guard := openedGuard s.osc.tick s.svc.image.lines[l] (c.queue.length - 1) } with
        queue := changeEntry addFollower (c.queue.length - 1) c.queue }).sendWarn
    [.raise .overflow (capuClock s)]

/-- R125: an edge of interest inside the line's guard: a follower of the linked entry, or dropped. -/
def State.followerEdge (l : CapLineNo) (link : Option Nat) (s : State) : State :=
  s.onCapu fun c =>
    { c.setLine l { c.lines[l] with found := none } with
      queue :=
        match link with
        | none => c.queue
        | some i => changeEntry addFollower i c.queue }

/-- R124: an edge of interest on this line, found on this tick. In CONFIG it is no capture. -/
def State.takeEdge (l : CapLineNo) (e : Edge) (s : State) : State :=
  if s.agu.sync = .config then s.onCapu fun c => c.setLine l { c.lines[l] with found := none }
  else if insideGuard s.osc.tick s.capu.lines[l].guard then
    s.followerEdge l (s.capu.lines[l].guard.bind LineGuard.link)
  else if s.capu.queue.length < queueLimit then s.storeCapture l e
  else s.overflowCapture l

/-- R121: the edge of interest found on this tick on this line, if there is one. -/
def interestOn (s : State) (l : CapLineNo) : Option (CapLineNo × Edge) :=
  match s.capu.lines[l].found with
  | none => none
  | some e =>
    if s.svc.image.lines[l].enabled && s.svc.image.lines[l].edge.matches e then some (l, e) else none

/-- R124: edges found on one tick are entered in ascending line order. -/
def firstInterest (s : State) : Option (CapLineNo × Edge) := (List.finRange 8).findSome? (interestOn s)

/-- EDGE_OF_INTEREST (R121). While a step notice of an earlier tick is still to be taken, CAPU stamps nothing (R134). -/
def execEdgeOfInterest (s : State) : Host.Outcome State Fault Refusal :=
  if overdueNotice s.net.stepCapu s then .next s
  else
    match firstInterest s with
    | none => .next s
    | some (l, e) => .next (s.takeEdge l e)

/-- GUARD_CLOSE (R125). -/
def execGuardClose (l : CapLineNo) (s : State) : Host.Outcome State Fault Refusal :=
  match s.capu.lines[l].guard with
  | none => .next s
  | some g =>
    if g.closing ≤ s.osc.tick then .next (s.onCapu fun c => c.setLine l { c.lines[l] with guard := none })
    else .next s

/-- R132: does the settle condition hold for an entry? While a step notice of an earlier tick is still to be taken, CAPU tests
nothing (R134). -/
def settles (s : State) (e : CapEntry) : Bool :=
  e.state = .pending && !(overdueNotice s.net.stepCapu s) && ownU s < Config.unbounded && e.unc < Config.unbounded
    && e.ts + e.unc < (capuClock s : Int) - ownU s

/-- R132: an entry's date is settled. -/
def settleEntry (e : CapEntry) : CapEntry := { e with state := .settled }

/-- R133: an entry is released without having settled. -/
def overdueEntry (e : CapEntry) : CapEntry := { e with state := .overdue }

/-- SETTLE (R132) of the entry at this place of the queue. -/
def execSettle (i : Fin 64) (s : State) : Host.Outcome State Fault Refusal :=
  match s.capu.queue[i.val]? with
  | none => .next s
  | some e =>
    if settles s e then .next (s.onCapu fun c => { c with queue := changeEntry settleEntry i c.queue }) else .next s

/-- R133: is an entry's settle limit reached while it is PENDING? -/
def settleLimitReached (s : State) (e : CapEntry) : Bool :=
  e.state = .pending && e.tick + settleLimitTicks s ≤ s.osc.tick

/-- OVERDUE (R133) of the entry at this place of the queue. -/
def execOverdue (i : Fin 64) (s : State) : Host.Outcome State Fault Refusal :=
  match s.capu.queue[i.val]? with
  | none => .next s
  | some e =>
    if settleLimitReached s e then
      .next (s.onCapu fun c => { c with queue := changeEntry overdueEntry i c.queue })
    else .next s

/-- R134, R135: an entry after a step of C. -/
def rebaseEntry (c : Int) (e : CapEntry) : CapEntry :=
  { e with ts := clampStamp (e.ts + c), rebased := min 15 (e.rebased + 1) }

/-- R134: on the boundary tick CAPU takes the notice after it has stamped that tick's edges and made its settle tests. -/
def capuBusy (s : State) (n : StepNotice) : Bool :=
  n.tick = s.osc.tick && ((firstInterest s).isSome || s.capu.queue.any (settles s))

/-- STEP_NOTICE_AT_CAPU (R134). -/
def execStepNoticeAtCapu (s : State) : Host.Outcome State Fault Refusal :=
  match s.net.stepCapu with
  | [] => .next s
  | n :: rest =>
    if capuBusy s n then .next s
    else
      .next
        ((s.onNet fun m => { m with stepCapu := rest }).onCapu fun k => { k with queue := k.queue.map (rebaseEntry n.c) })

/-- HEAD_STANDING_REPORT (R140): SVC learns the head's standing. -/
def execHeadStandingReport (s : State) : Host.Outcome State Fault Refusal :=
  .next (s.onSvc fun v => { v with capCond := headReady s.capu.queue })

/-- R137: the head is gone, so a link to it is none, and a link to a later entry names one place less. -/
def unlinkHead (g : LineGuard) : LineGuard :=
  { g with
    link :=
      match g.link with
      | none => none
      | some 0 => none
      | some (i + 1) => some i }

/-- R137, R138: the head leaves the queue; leaving it empty sends the removal of OVERFLOW. -/
def State.removeHead (rest : List CapEntry) (s : State) : State :=
  (s.onCapu fun c =>
      { lines := mapAll (fun x => { x with guard := x.guard.map unlinkHead }) c.lines, queue := rest }).sendWarn
    (if rest.isEmpty then [.remove .overflow] else [])

end Sys2Proof.Machine
end

