-- ==== Sys2Proof/Machine/Clock.lean ====
section
/-! DEFINITION. OSCMON and ECLK (chapter 1): TICK, POSTING, PRIMARY_LOST. -/

namespace Sys2Proof.Machine

/-- R4: one more tick. After the largest count of 64 bits the value is free (log entry 1). -/
def State.countTick (s : State) : State :=
  if s.osc.tick + 1 < Config.tickRange then { s with osc := { s.osc with tick := s.osc.tick + 1 } }
  else { s with osc := { s.osc with tick := (Config.freeTick s.freeDraws).toNat }, freeDraws := s.freeDraws + 1 }

/-- R121: CAPU's sample of the eight capture lines on this tick. -/
def sampleCaptureLines (caps : BitVec 8) (c : Capu) : Capu :=
  { c with
    lines :=
      mapNumbered
        (fun l x => { x with prev := some (caps.getLsbD l.val), found := edgeFound x.prev (caps.getLsbD l.val) }) c.lines }

/-- R109: ANCH's sample of the reference-pulse input on this tick: a rising edge is a pulse, stamped with this clock in ns. -/
def sampleReference (ref : Bool) (tick : Tick) (clock : Nat) (a : Anch) : Anch :=
  { a with
    prevRef := some ref
    pulses := if edgeFound a.prevRef ref = some .rising then a.pulses ++ [{ tick := tick, stamp := clock }] else a.pulses }

/-- R109, R121: the samples of a tick, taken after its advance and after any step that ECLK applies on it. A pulse found on such a
tick is so stamped with the stepped clock; R128 gives a capture the boundary value there, and chapter 6 says nothing of a pulse
(DESIGN CHOICE, log entry 39). -/
def State.sampleInputs (caps : BitVec 8) (ref : Bool) (s : State) : State :=
  (s.onCapu (sampleCaptureLines caps)).onAnch (sampleReference ref s.osc.tick (clockNs s))

/-- R7, R10, R12: the tick's advance of ECLK, and what the slots hold if the advance makes an update boundary. -/
def State.advance (s : State) : State :=
  if isBoundary s.eclk then (s.onEclk advanceClock).updateBoundary else s.onEclk advanceClock

/-- TICK (R4, R7, R9, R10, R12, R13, R14), with the samples taken on the tick (R109, R121). -/
def execTick (caps : BitVec 8) (ref : Bool) (s : State) : Host.Outcome State Fault Refusal :=
  .next (s.countTick.advance.sampleInputs caps ref)

/-- R8, R11, R17: ECLK takes a posting into its slot. Phase and trim are clamped, and discarded while the posting hold is set. -/
def State.takePosting (p : Posting) (s : State) : State :=
  match p with
  | .phase v =>
    if s.eclk.hold then s
    else s.onEclk fun e => { e with phaseSlot := some (satAbs (slewUnits s.svc.image.slewLimit) v) }
  | .trim v => if s.eclk.hold then s else s.onEclk fun e => { e with trimSlot := some (satAbs Config.trimLimit v) }
  | .step c => s.onEclk fun e => { e with stepSlot := some c }

/-- The postings on their way from a block, oldest first. -/
def InFlight.postings (n : InFlight) : Poster → List Posting
  | .agu => n.postAgu
  | .dmon => n.postDmon
  | .svc => n.postSvc

/-- The postings on their way from a block become these. -/
def InFlight.setPostings (src : Poster) (ps : List Posting) (n : InFlight) : InFlight :=
  match src with
  | .agu => { n with postAgu := ps }
  | .dmon => { n with postDmon := ps }
  | .svc => { n with postSvc := ps }

/-- POSTING (R11): ECLK takes the oldest posting on its way from this block. -/
def execPosting (src : Poster) (s : State) : Host.Outcome State Fault Refusal :=
  match s.net.postings src with
  | [] => .next s
  | p :: rest => .next ((s.onNet (InFlight.setPostings src rest)).takePosting p)

/-- PRIMARY_LOST (R2): four backup periods have passed with no primary edge. On BACKUP the primary is not watched. The notice to
DMON carries the ensemble time at which OSCMON makes the raise (R105). -/
def execPrimaryLost (s : State) : Host.Outcome State Fault Refusal :=
  match s.osc.selection with
  | .primary =>
    .next
      ({ s with osc := { s.osc with selection := .backup } }.onNet fun n =>
        { n with fallbackAgu := true, fallbackAnch := true, fallbackDmon := n.fallbackDmon ++ [clockNs s] })
  | .backup => .next s

end Sys2Proof.Machine
end

