-- ==== Sys2Proof/Machine/Drift.lean ====
section
/-! DEFINITION. DMON (chapter 5): samples and rates, the two notices that break a window, reviews, the accusation list, and the
notices that reach the warning list. -/

namespace Sys2Proof.Machine

/-! ## Samples and rates (R88 to R91) -/

/-- R89: the sum of the θ′ values. -/
def sumTheta (ss : List (Tick × Int)) : Int := (ss.map fun x => x.2).sum

/-- R89: the sum of the arrival ticks. -/
def sumTicks (ss : List (Tick × Int)) : Int := (ss.map fun x => (x.1 : Int)).sum

/-- R89: the rates lie within this, in ppb. -/
abbrev rateLimit : Int := 10000000

/-- R89: the rate of a window of 8 samples, truncated and clamped. -/
def rateOf (w : List (Tick × Int)) : Int :=
  satAbs rateLimit
    (((sumTheta (w.drop 4) - sumTheta (w.take 4)) * 1000000000).tdiv
      ((sumTicks (w.drop 4) - sumTicks (w.take 4)) * Config.nsPerTick))

/-- R88, R89: a sample appended; at 8 samples the rate is computed and the first four leave. -/
def appendSample (tick : Tick) (thetaP : Int) (r : DriftRecord) : DriftRecord :=
  let w := r.window ++ [(tick, thetaP)]
  if w.length = 8 then { r with window := w.drop 4, rate := some (rateOf w), fresh := true } else { r with window := w }

/-- R88: a step tick is held, and the sample's arrival tick is earlier. -/
def predatesStep (tick : Tick) : Option Tick → Bool
  | none => false
  | some t => tick < t

/-- SAMPLE (R88). -/
def execSample (s : State) : Host.Outcome State Fault Refusal :=
  match s.net.toDmon with
  | .sample p tick thetaP :: rest =>
    let s' := s.onNet fun n => { n with toDmon := rest }
    if predatesStep tick s.dmon.stepTick then .next s'
    else .next (s'.setDrift p (appendSample tick thetaP s.dmon.drift[p]))
  | _ => .next s

/-- LEAVE_NOTICE (R90). -/
def execLeaveNotice (s : State) : Host.Outcome State Fault Refusal :=
  match s.net.toDmon with
  | .leave p :: rest =>
    .next
      ((s.onNet fun n => { n with toDmon := rest }).setDrift p { s.dmon.drift[p] with window := [], fresh := false })
  | _ => .next s

/-- WINDOW_NOTICE (R90). -/
def execWindowNotice (s : State) : Host.Outcome State Fault Refusal :=
  match s.net.toDmon with
  | .window p :: rest =>
    .next ((s.onNet fun n => { n with toDmon := rest }).setDrift p { s.dmon.drift[p] with window := [] })
  | _ => .next s

/-- STEP_NOTICE_AT_DMON (R91). -/
def execStepNoticeAtDmon (s : State) : Host.Outcome State Fault Refusal :=
  match s.net.stepDmon with
  | [] => .next s
  | _ :: rest =>
    .next
      ((s.onNet fun n => { n with stepDmon := rest }).onDmon fun m =>
        { m with drift := mapAll (fun r => { r with window := [] }) m.drift, stepTick := some s.osc.tick })

/-! ## Reviews (R92 to R99) -/

/-- R93: the review rate of a peer, if its rate is fresh and its record ADMITTED. -/
def reviewRate (s : State) (p : Station) : Option Int :=
  if p ≠ s.svc.station && s.dmon.drift[p].fresh && s.ptab[p].link = .admitted then s.dmon.drift[p].rate else none

/-- Put a rate into its place in ascending order. -/
def insertRate (x : Int) : List Int → List Int
  | [] => [x]
  | y :: ys => if x ≤ y then x :: y :: ys else y :: insertRate x ys

/-- R94: rates in ascending order. -/
def sortRates (rs : List Int) : List Int := rs.foldr insertRate []

/-- R93: the review rates, the own rate of 0 among them. -/
def reviewRates (s : State) : List Int := 0 :: stations.filterMap (reviewRate s)

/-- R94: the rate at position floor((k + 1) / 2), the lowest being position 1. -/
def referenceRate (rates : List Int) : Int := (sortRates rates).getD ((rates.length + 1) / 2 - 1) 0

/-- R95: the verdict moves by abs(d) against the drift limit L. -/
def nextVerdict (l : Nat) (v : Verdict) (d : Int) : Verdict :=
  match v with
  | .steady => if l < d.natAbs then .suspect else .steady
  | .suspect => if l < d.natAbs then .drifting else .steady
  | .drifting => if 2 * d.natAbs ≤ l then .easing else .drifting
  | .easing => if l < d.natAbs then .drifting else if 2 * d.natAbs ≤ l then .steady else .easing

/-- R96: the warning list is kept in step with a verdict that moved from `v` to `v'`. -/
def State.warnVerdict (kind : WarningKind) (subj : Subject) (v v' : Verdict) (d : Int) (s : State) : State :=
  if v' = v then s
  else if v' = .drifting then s.raiseWarning { kind := kind, subject := subj, time := clockNs s, value := d }
  else if v' = .steady then s.removeWarning kind subj
  else s

/-- R94 to R96: a peer is judged against ρref; a peer with no review rate keeps its verdict and d. -/
def State.judgePeer (ref : Int) (rate : Option Int) (p : Station) (s : State) : State :=
  match rate with
  | none => s
  | some rho =>
    let r := s.dmon.drift[p]
    let l := (profileAttrs s.svc.image s.ptab[p].profile).driftLimit
    let v := nextVerdict l r.verdict (rho - ref)
    (s.setDrift p { r with verdict := v, d := rho - ref }).warnVerdict .peerDrifting (.peer p) r.verdict v (rho - ref)

/-- R94 to R96: the own clock is judged against ρref, by the default profile's drift limit. -/
def State.judgeOwn (ref : Int) (s : State) : State :=
  let v := nextVerdict s.svc.image.dflt.driftLimit s.dmon.ownVerdict (-ref)
  (s.onDmon fun m => { m with ownVerdict := v, ownD := -ref }).warnVerdict .selfDrifting .own s.dmon.ownVerdict v (-ref)

/-- R97: the trim value a conclusive review posts. -/
def trimPosted (trim ref : Int) : Int :=
  satAbs Config.trimLimit (trim + roundHalfAway (ref * Config.nominalIncrement) 2000000000)

/-- R98: peers are judged in ascending order, the own station last, by the rates read at the review. -/
def judgeAll (ref : Int) (s : State) : State :=
  (stations.foldl (fun t p => t.judgePeer ref (reviewRate s p) p) s).judgeOwn ref

/-- R94: every fresh flag is cleared. -/
def clearFresh (m : Dmon) : Dmon := { m with drift := mapAll (fun r => { r with fresh := false }) m.drift }

/-- R93 to R97, R99: a review with at least three review rates. -/
def conclusiveReview (s : State) : State :=
  let rates := reviewRates s
  let ref := referenceRate rates
  let trim := trimPosted s.eclk.trim ref
  (((judgeAll ref s).onDmon fun m =>
      { clearFresh m with
        reviewTimer := some (s.osc.tick + reviewTicks s)
        review :=
          { outcome := .conclusive, tick := some s.osc.tick, k := some rates.length, ref := some ref, ownD := some (-ref)
            trim := some trim } }).post .dmon (.trim trim))

/-- R93, R99: a review with fewer than three review rates. -/
def inconclusiveReview (s : State) : State :=
  s.onDmon fun m =>
    { m with
      reviewTimer := some (s.osc.tick + reviewTicks s)
      review :=
        { outcome := .inconclusive, tick := some s.osc.tick, k := some (reviewRates s).length, ref := none, ownD := none
          trim := none } }

/-- R92: has the review timer been reached? -/
def reviewDue (s : State) : Bool :=
  match s.dmon.reviewTimer with
  | none => false
  | some t => t ≤ s.osc.tick

/-- REVIEW (R92, R93). -/
def execReview (s : State) : Host.Outcome State Fault Refusal :=
  if reviewDue s then
    if (reviewRates s).length < 3 then .next (inconclusiveReview s) else .next (conclusiveReview s)
  else .next s

/-! ## Accusations (R100) -/

/-- R100: is `p` a drifting peer to accuse? -/
def accusedDrifting (s : State) (p : Station) : Bool :=
  p ≠ s.svc.station && s.dmon.drift[p].verdict = .drifting && s.ptab[p].link ≠ .absent

/-- R100: is `p` a barred peer to accuse, not already listed? -/
def accusedBarred (s : State) (p : Station) : Bool :=
  p ≠ s.svc.station && s.ptab[p].link = .barred && !(accusedDrifting s p)

/-- R100: by abs(d) descending; taken from the ascending station order, an equal one goes after. -/
def insertByDrift (s : State) (p : Station) : List Station → List Station
  | [] => [p]
  | q :: qs =>
    if (s.dmon.drift[q].d).natAbs ≤ (s.dmon.drift[p].d).natAbs then p :: q :: qs else q :: insertByDrift s p qs

/-- R100: the accusation list, cut after its fourth entry. -/
def accusationList (s : State) : List Station :=
  (((stations.filter (accusedDrifting s)).foldr (insertByDrift s) []) ++ stations.filter (accusedBarred s)).take 4

/-- ACCUSATION_LIST (R100): DMON answers the request of a launch point. -/
def execAccusationList (s : State) : Host.Outcome State Fault Refusal :=
  match s.span.frame with
  | none => .next s
  | some f =>
    match f.accusations with
    | some _ => .next s
    | none => .next (s.onSpan fun sp => { sp with frame := some { f with accusations := some (accusationList s) } })

/-! ## The warning list's notices (R2, R24, R103, R104) -/

/-- FALLBACK_NOTICE_AT_DMON (R2, R105): OSC_FALLBACK, with the raise time the notice carries. -/
def execFallbackNoticeAtDmon (s : State) : Host.Outcome State Fault Refusal :=
  match s.net.fallbackDmon with
  | [] => .next s
  | time :: rest =>
    .next
      ((s.onNet fun n => { n with fallbackDmon := rest }).raiseWarning
        { kind := .oscFallback, subject := .own, time := time, value := 0 })

/-- DUPLICATE_NOTICE (R24, R105): DUPLICATE_NUMBER, with the raise time the notice carries. -/
def execDuplicateNotice (s : State) : Host.Outcome State Fault Refusal :=
  match s.net.duplicates with
  | [] => .next s
  | time :: rest =>
    .next
      ((s.onNet fun m => { m with duplicates := rest }).raiseWarning
        { kind := .duplicateNumber, subject := .own, time := time, value := 0 })

/-- RAISE_NOTICE (R103): the oldest notice of this kind on its way, if it is a raise. -/
def execRaiseNotice (k : NoticeKind) (s : State) : Host.Outcome State Fault Refusal :=
  match takeNotice k s.net.warn with
  | some (.raise _ time, rest) =>
    .next
      ((s.onNet fun n => { n with warn := rest }).raiseWarning
        { kind := noticeWarning k, subject := .own, time := time, value := 0 })
  | _ => .next s

/-- REMOVAL_NOTICE (R104): the oldest notice of this kind on its way, if it is a removal. -/
def execRemovalNotice (k : NoticeKind) (s : State) : Host.Outcome State Fault Refusal :=
  match takeNotice k s.net.warn with
  | some (.remove _, rest) => .next ((s.onNet fun n => { n with warn := rest }).removeWarning (noticeWarning k) .own)
  | _ => .next s

end Sys2Proof.Machine
end

