-- ==== Sys2Proof/Machine/Marks.lean ====
section
/-! DEFINITION. MSCH (chapter 8): fires, catch-up, chains, the step notice and the mark lines. -/

namespace Sys2Proof.Machine

/-- What a fire reads besides MSCH: the clock as MSCH reads it, the tick, the own sync state and U (R148, R149). -/
structure FireContext where
  clock : Nat
  tick : Tick
  sync : SyncState
  u : Nat
deriving DecidableEq, Repr

/-- The readings of a fire made now. -/
def fireContext (s : State) : FireContext where
  clock := mschClock s
  tick := s.osc.tick
  sync := s.agu.sync
  u := ownU s

/-- R149: is the guard met? -/
def guardMet (ctx : FireContext) : Guard → Bool
  | .none => true
  | .agreedOnly => ctx.sync = .agreed
  | .bound b => ctx.u ≤ b && ctx.u < Config.unbounded

/-- R150: a mark of `width` ticks on a line. -/
def driveLine (tick width : Nat) (l : MarkLine) : MarkLine :=
  { l with release := some (max (l.release.getD 0) (tick + width)), high := true }

/-- R149, R150: the mark of a fire whose guard is met. -/
def driveMark (ctx : FireContext) (p : Program) (lines : Vector MarkLine 4) : Vector MarkLine 4 :=
  match p.output with
  | none => lines
  | some l => if guardMet ctx p.guard then lines.set l (driveLine ctx.tick p.width lines[l]) else lines

/-- R145, R151: the count of a program that is taken up: 1 for SINGLE. -/
def startCount (p : Program) : Nat := match p.mode with | .single => 1 | .finite => p.count | .cyclic => p.count

/-- R149: a fire whose guard is not met is counted as suppressed. -/
def countSuppressed (ctx : FireContext) (e : SchedEntry) : SchedEntry :=
  if guardMet ctx e.live.guard then e else { e with suppressed := min Config.countLimit (e.suppressed + 1) }

/-- R151: a staged change is taken up in the fire. -/
def takeUpStaging (e : SchedEntry) : SchedEntry :=
  if e.staged then
    { e with live := { e.staging with count := startCount e.staging }, staged := false }
  else e

/-- R151: the next fire time, `e` being the entry before the fire and `e'` after taking up its staging. -/
def nextFire (e e' : SchedEntry) : Nat :=
  if e.staged then e.stagingFire.getD (e.fire + e'.live.period) else e.fire + e'.live.period

/-- R155: the least whole number of periods that puts a fire time above the clock. -/
def periodsPast (clock fire period : Nat) : Nat := if fire ≤ clock then (clock - fire) / period + 1 else 0

/-- R155: the skip rule. -/
def skipPast (clock : Nat) (e : SchedEntry) : SchedEntry :=
  { e with
    fire := e.fire + periodsPast clock e.fire e.live.period * e.live.period
    skipped := min Config.countLimit (e.skipped + periodsPast clock e.fire e.live.period) }

/-- R151, R152, R155: the fire counts against the count remaining: the entry stays ARMED on its next fire time, carried past the
clock, or completes, its live fire time then standing at the next one (log entry 22). -/
def countFire (clock next : Nat) (e : SchedEntry) : SchedEntry :=
  if 1 < e.live.count then
    skipPast clock { e with live := { e.live with count := e.live.count - 1 }, fire := next }
  else
    match e.live.mode with
    | .cyclic =>
      skipPast clock
        { e with
          live := { e.live with count := e.live.reload }
          fire := next
          completion := e.completion || e.live.report }
    | .single => { e with live := { e.live with count := 0 }, fire := next, armed := false, completion := true }
    | .finite => { e with live := { e.live with count := 0 }, fire := next, armed := false, completion := true }

/-- R149 to R152, R155, R156: the entry after one fire, which is a catch-up fire when `late`. -/
def firedEntry (ctx : FireContext) (late : Bool) (e : SchedEntry) : SchedEntry :=
  let e0 := { countSuppressed ctx e with late := e.late || late }
  countFire ctx.clock (nextFire e0 (takeUpStaging e0)) (takeUpStaging e0)

/-- R145: the entry armed from its staging, the fire time staged being `fire`. -/
def armedEntry (fire : Nat) (e : SchedEntry) : SchedEntry :=
  { e with
    armed := true
    fire := fire
    live := { e.staging with count := startCount e.staging }
    skipped := 0
    suppressed := 0
    late := false
    chainRefused := false
    staged := false }

/-- R145, R153: the fire time from which an entry can be armed: it is IDLE, staged, and its staging holds one. -/
def armable (e : SchedEntry) : Option Nat := if !e.armed && e.staged then e.stagingFire else none

/-- Put this entry into the table. -/
def Msch.setEntry (n : EntryNo) (e : SchedEntry) (m : Msch) : Msch := { m with entries := m.entries.set n e }

/-- R149 to R152: the fire of one entry, mark and all, but for its chain. -/
def Msch.fireOnce (ctx : FireContext) (late : Bool) (n : EntryNo) (m : Msch) : Msch :=
  { entries := m.entries.set n (firedEntry ctx late m.entries[n])
    lines := driveMark ctx m.entries[n].live m.lines }

/-- R152, R153: the chain to try after the fire of an entry, if it completed with one. -/
def chainAfter (e : SchedEntry) : Option EntryNo := if e.armed then none else e.live.chain

/-- R149 to R153, R156: a fire with its chain. Each chain arm consumes its target's staging, so a cascade ends within the 16
entries: `fuel` 17 is never used up (R153). -/
def Msch.fireEntry (ctx : FireContext) : Nat → Bool → EntryNo → Msch → Msch
  | 0, _, _, m => m
  | fuel + 1, late, n, m =>
    let m1 := m.fireOnce ctx late n
    match chainAfter m1.entries[n] with
    | none => m1
    | some target =>
      match armable m1.entries[target] with
      | none => m1.setEntry n { m1.entries[n] with chainRefused := true }
      | some t =>
        let m2 := m1.setEntry target (armedEntry t m1.entries[target])
        if t ≤ ctx.clock then m2.fireEntry ctx fuel true target else m2

/-- R153: the fires of the longest cascade. -/
abbrev cascadeFuel : Nat := 17

/-- R145, R156: an entry is armed from its staging, and catches up at once if its fire time `t` has been reached. -/
def Msch.armEntry (ctx : FireContext) (n : EntryNo) (t : Nat) (m : Msch) : Msch :=
  let m1 := m.setEntry n (armedEntry t m.entries[n])
  if t ≤ ctx.clock then m1.fireEntry ctx cascadeFuel true n else m1

/-- R148: is the entry ARMED with a fire time at or below the clock? -/
def fireDue (ctx : FireContext) (e : SchedEntry) : Bool := e.armed && e.fire ≤ ctx.clock

/-- FIRE (R148). While a step notice of an earlier tick is still to be taken, MSCH makes no fire test. -/
def execFire (n : EntryNo) (s : State) : Host.Outcome State Fault Refusal :=
  if overdueNotice s.net.stepMsch s then .next s
  else if fireDue (fireContext s) s.msch.entries[n] then
    .next (s.onMsch fun m => m.fireEntry (fireContext s) cascadeFuel false n)
  else .next s

/-- R157: the ARMED entries that the stepped clock has reached catch up in ascending order. -/
def catchUpAll (ctx : FireContext) (m : Msch) : Msch :=
  (List.finRange 16).foldl
    (fun m n => if fireDue ctx m.entries[n] then m.fireEntry ctx cascadeFuel true n else m) m

/-- R148: on the boundary tick MSCH takes the notice after that tick's fire tests. -/
def mschBusy (s : State) (n : StepNotice) : Bool :=
  n.tick = s.osc.tick && s.msch.entries.toList.any (fireDue (fireContext s))

/-- STEP_NOTICE_AT_MSCH (R148, R157). -/
def execStepNoticeAtMsch (s : State) : Host.Outcome State Fault Refusal :=
  match s.net.stepMsch with
  | [] => .next s
  | n :: rest =>
    let s' := s.onNet fun m => { m with stepMsch := rest }
    if mschBusy s n then .next s else .next (s'.onMsch (catchUpAll (fireContext s')))

/-- R150: has the line's release tick been reached? -/
def releaseReached (s : State) (l : MarkLine) : Bool :=
  match l.release with
  | none => false
  | some t => t ≤ s.osc.tick

/-- MARK_RELEASE (R150): the line goes low. -/
def execMarkRelease (l : MarkLineNo) (s : State) : Host.Outcome State Fault Refusal :=
  if releaseReached s s.msch.lines[l] then
    .next (s.onMsch fun m => { m with lines := m.lines.set l { m.lines[l] with high := false } })
  else .next s

/-- SCHEDULE_REPORT (R159): SVC learns whether any completion flag is set. -/
def execScheduleReport (s : State) : Host.Outcome State Fault Refusal :=
  .next (s.onSvc fun v => { v with schedCond := anyCompletion s.msch })

end Sys2Proof.Machine
end

