-- ==== Sys2Proof/Machine/Peers.lean ====
section
/-! DEFINITION. PTAB (chapter 3): HAND_OFF with the beat test, observations and notices, the two expiries, the dissent notice and
the rebase notice. -/

namespace Sys2Proof.Machine

/-! ## Observations (R51 to R53) -/

/-- R51: θ saturates here. -/
abbrev thetaLimit : Int := 140737488355327

/-- R53: θ′ saturates here. -/
abbrev thetaPLimit : Int := 9223372036854775807

/-- R51: θ. -/
def thetaOf (a : ProfileAttrs) (h : HandOff) : Int := satAbs thetaLimit ((h.launch : Int) + a.pathDelay - h.stamp)

/-- R52: ε0. A beacon that states UNBOUNDED gives UNBOUNDED. -/
def eps0Of (a : ProfileAttrs) (h : HandOff) : Nat := satUnc (h.statedUnc + a.pathUnc + 80)

/-- R51 to R53: the observation of an accepted beacon. -/
def observationOf (a : ProfileAttrs) (h : HandOff) : Observation where
  theta := thetaOf a h
  eps0 := eps0Of a h
  thetaP := satAbs thetaPLimit (thetaOf a h + h.phaseTotal)
  arrivalTick := h.tick
  statedUnc := h.statedUnc
  flags := h.flags

/-! ## The beat (R43 to R46) -/

/-- R44, step 1: the scheduled arrival (log entry 14). -/
def scheduledArrival (h : HandOff) : Int := (h.tick : Int) - ((h.deferral / Config.nsPerTick : Nat) : Int)

/-- R43: the sequence step k. -/
def sequenceStep (r : PeerRecord) (h : HandOff) : Nat := (h.seq - r.lastSeq).toNat

/-- R44: how a beacon falls against the beat. -/
inductive Beat where
  | inBeat
  | early
  | late
deriving DecidableEq, Repr

/-- R44, steps 2 and 3: 40 × D, the difference in ns, for a stated interval. -/
def beatDifference (interval : Period) (r : PeerRecord) (h : HandOff) : Int :=
  Config.nsPerTick * (scheduledArrival h - (r.lastSched + (sequenceStep r h * interval.ticks : Nat)))

/-- R44: the beat test. A beacon that names another round period than the record's stated interval is late. -/
def beatTest (accept : Nat) (r : PeerRecord) (h : HandOff) : Beat :=
  match r.interval with
  | none => .late
  | some interval =>
    if interval ≠ h.period then .late
    else if beatDifference interval r h < -(beatHalfWidth interval accept : Int) then .early
    else if (beatHalfWidth interval accept : Int) < beatDifference interval r h then .late
    else .inBeat

/-- R46, R57, R58: an accepted beacon updates the record, which becomes `link` with this in-beat count. -/
def acceptBeacon (own : Station) (a : ProfileAttrs) (link : LinkState) (inBeat : Nat) (h : HandOff) (r : PeerRecord) :
    PeerRecord :=
  { r with
    link := link
    inBeat := inBeat
    lastSeq := h.seq
    lastSched := scheduledArrival h
    interval := some h.period
    silenceExpiry := some (scheduledArrival h + (silenceSpan h.period a.accept : Nat))
    obs := some (observationOf a h)
    accusesMe := h.accusations.contains own
    dissent := if r.link = .admitted && link ≠ .admitted then 0 else r.dissent }

/-- R55: the sample of an accepted beacon. -/
def sampleOf (a : ProfileAttrs) (h : HandOff) : PeerNotice := .sample h.station h.tick (observationOf a h).thetaP

/-- R56: the window notice of a beacon whose STEPPED flag is set. -/
def windowIfStepped (h : HandOff) : List PeerNotice := if h.flags.stepped then [.window h.station] else []

/-- R45: what the beat test makes of a tested beacon: the record, and the notices to DMON in their order (R46, R55, R56). -/
def testedBeacon (own : Station) (tick : Tick) (a : ProfileAttrs) (h : HandOff) (r : PeerRecord) :
    PeerRecord × List PeerNotice :=
  match r.link, beatTest a.accept r h with
  | .admitted, .inBeat => (acceptBeacon own a .admitted 2 h r, windowIfStepped h ++ [sampleOf a h])
  | .admitted, .early => (barRecord tick r, [.leave h.station])
  | .admitted, .late => (acceptBeacon own a .listening 1 h r, [.leave h.station])
  | .listening, .inBeat => (acceptBeacon own a .admitted 2 h r, [sampleOf a h])
  | _, _ => (acceptBeacon own a .listening 1 h r, [])

/-- R43: what a valid frame does to the record at its sender's number. -/
def takeFrame (own : Station) (tick : Tick) (a : ProfileAttrs) (h : HandOff) (r : PeerRecord) :
    PeerRecord × List PeerNotice :=
  match r.link with
  | .barred => (r, [])
  | .absent => (acceptBeacon own a .listening 1 h r, [])
  | .listening =>
    if r.inBeat = 0 then (acceptBeacon own a .listening 1 h r, [])
    else if sequenceStep r h = 0 then (r, [])
    else testedBeacon own tick a h r
  | .admitted => if sequenceStep r h = 0 then (r, []) else testedBeacon own tick a h r
  | .silent => if sequenceStep r h = 0 then (r, []) else testedBeacon own tick a h r

/-- HAND_OFF (R43): PTAB takes the oldest frame on its way. -/
def execHandOff (s : State) : Host.Outcome State Fault Refusal :=
  match s.net.handOffs with
  | [] => .next s
  | h :: rest =>
    let r := s.ptab[h.station]
    let t := takeFrame s.svc.station s.osc.tick (profileAttrs s.svc.image r.profile) h r
    .next (((s.onNet fun n => { n with handOffs := rest }).setPeer h.station t.1).sendDmon t.2)

/-! ## Expiries (R47 to R49) -/

/-- R47: a BARRED record whose bar expiry `t` is reached. -/
def releaseBar (accept : Nat) (t : Tick) (r : PeerRecord) : PeerRecord :=
  { r with
    link := .listening
    inBeat := 0
    barExpiry := none
    silenceExpiry := some ((t + (r.interval.map fun p => silenceSpan p accept).getD 0 : Nat) : Int) }

/-- BAR_EXPIRY (R47). -/
def execBarExpiry (p : Station) (s : State) : Host.Outcome State Fault Refusal :=
  let r := s.ptab[p]
  match r.link, r.barExpiry with
  | .barred, some t =>
    if t ≤ s.osc.tick then .next (s.setPeer p (releaseBar (profileAttrs s.svc.image r.profile).accept t r)) else .next s
  | _, _ => .next s

/-- R48: a LISTENING or ADMITTED record whose silence expiry `e` is reached. -/
def fallSilent (e : Int) (r : PeerRecord) : PeerRecord :=
  { r with
    link := .silent
    inBeat := 0
    dissent := 0
    silenceExpiry := some (e + (60 * (r.interval.map Period.ticks).getD 0 : Nat)) }

/-- R49: a SILENT record becomes ABSENT; the profile is kept. -/
def becomeAbsent (r : PeerRecord) : PeerRecord := { PeerRecord.reset with profile := r.profile }

/-- SILENCE_EXPIRY (R48, R49). -/
def execSilenceExpiry (p : Station) (s : State) : Host.Outcome State Fault Refusal :=
  let r := s.ptab[p]
  match r.silenceExpiry with
  | none => .next s
  | some e =>
    if e ≤ s.osc.tick then
      match r.link with
      | .listening => .next (s.setPeer p (fallSilent e r))
      | .admitted => .next ((s.setPeer p (fallSilent e r)).sendDmon [.leave p])
      | .silent => .next (s.setPeer p (becomeAbsent r))
      | .absent => .next s
      | .barred => .next s
    else .next s

/-! ## DISSENT_NOTICE and REBASE_NOTICE (R54, R58) -/

/-- R58: a dissenter's record. -/
def countDissent (tick : Tick) (r : PeerRecord) : PeerRecord :=
  if r.link = .admitted then
    if 3 ≤ r.dissent + 1 then barRecord tick r else { r with dissent := r.dissent + 1 }
  else r

/-- R58: an agreeing participant's record. -/
def clearDissent (r : PeerRecord) : PeerRecord := if r.link = .admitted then { r with dissent := 0 } else r

/-- R47, R56: a dissenter that the notice bars leaves ADMITTED. -/
def barredByNotice (r : PeerRecord) : Bool := r.link = .admitted && 3 ≤ r.dissent + 1

/-- R58: what a dissent notice makes of one record. -/
def afterDissent (own : Station) (tick : Tick) (d : Dissent) (p : Station) (r : PeerRecord) : PeerRecord :=
  if p = own then r
  else if d.dissenters.contains p then countDissent tick r
  else if d.agreeing.contains p then clearDissent r
  else r

/-- R56: the leave notices of the records a dissent notice bars, in ascending order. -/
def dissentLeaves (own : Station) (ptab : Vector PeerRecord 32) (d : Dissent) : List PeerNotice :=
  (stations.filter fun p => p ≠ own && d.dissenters.contains p && barredByNotice ptab[p]).map PeerNotice.leave

/-- DISSENT_NOTICE (R58). -/
def execDissentNotice (s : State) : Host.Outcome State Fault Refusal :=
  match s.net.dissent with
  | [] => .next s
  | d :: rest =>
    .next
      ({ (s.onNet fun n => { n with dissent := rest }) with
          ptab := mapNumbered (afterDissent s.svc.station s.osc.tick d) s.ptab }.sendDmon
        (dissentLeaves s.svc.station s.ptab d))

/-- R54: a held observation after a step of C. -/
def rebaseObservation (c : Int) (o : Observation) : Observation :=
  { o with theta := satAbs thetaLimit (o.theta - c), thetaP := satAbs thetaPLimit (o.thetaP - c) }

/-- R54: a record after a step of C, whatever its link state. -/
def rebaseRecord (c : Int) (r : PeerRecord) : PeerRecord := { r with obs := r.obs.map (rebaseObservation c) }

/-- REBASE_NOTICE (R54). -/
def execRebaseNotice (s : State) : Host.Outcome State Fault Refusal :=
  match s.net.rebase with
  | [] => .next s
  | c :: rest =>
    .next { (s.onNet fun n => { n with rebase := rest }) with ptab := mapAll (rebaseRecord c) s.ptab }

end Sys2Proof.Machine
end

