-- ==== Sys2Proof/Machine/Resets.lean ====
section
/-! DEFINITION. The two resets, block by block: FULL_RESET (R16, R37, R61, R86, R108, R120, R142, R160, R177) and what RESTART
makes of each block (R17 and the second column of the same tables). -/

namespace Sys2Proof.Machine

/-- Is this a notice of AGU, which names SELF_ACCUSED or NO_AGREEMENT (R105)? -/
def noticeOfAgu (w : WarnNotice) : Bool := w.kind = .selfAccused || w.kind = .noAgreement

/-- What is on its way at a full reset. R108 has DMON take a step notice, a fallback notice or another block's notice after the
reset, on the cleared state; the raises of ANCH and CAPU are cleared by that reset (R120, R142), and what is on its way elsewhere
is lost (log entry 6). -/
def fullResetNet (n : InFlight) : InFlight :=
  { InFlight.empty with
    fallbackDmon := n.fallbackDmon
    duplicates := n.duplicates
    stepDmon := n.stepDmon
    warn := n.warn.filter noticeOfAgu }

/-- FULL_RESET (R16): every block at its full-reset values and the straps read, at the release of RESET_N (log entry 36). The
queue of commands and the model's count of free values are no part of the station and stay. -/
def execFullReset (straps : Straps) (s : State) : Host.Outcome State Fault Refusal :=
  .next { State.resetWith straps with net := fullResetNet s.net, pending := s.pending, freeDraws := s.freeDraws }

/-- R17: ECLK at RESTART. -/
def restartEclk (e : Eclk) : Eclk :=
  { e with phase := 0, phaseSlot := none, trimSlot := none, stepSlot := none, hold := true }

/-- R37: SPAN at RESTART; the receiver hunts, ready if the line is idle now (log entry 15). -/
def restartSpan (sp : Span) : Span :=
  { Span.reset with seq := sp.seq, idleRun := sp.idleRun, rx := if sp.idleRun = 0 then .waitIdle else .ready }

/-- R86: AGU at RESTART; UNSET, the base and the base tick are kept, and so is the tolerance taken up at a fallback (R17). -/
def restartAgu (a : Agu) : Agu :=
  { Agu.reset with unset := a.unset, base := a.base, baseTick := a.baseTick, onBackup := a.onBackup }

/-- R108: DMON at RESTART; OSC_FALLBACK is kept. -/
def restartDmon (m : Dmon) : Dmon :=
  { Dmon.reset with warnings := m.warnings.filter fun w => w.kind = .oscFallback }

/-- R120: ANCH at RESTART; its input is sampled on (log entry 9), and the tolerance taken up at a fallback is kept (R17). -/
def restartAnch (a : Anch) : Anch := { Anch.reset with onBackup := a.onBackup, prevRef := a.prevRef }

/-- R142: CAPU at RESTART; sampling goes on. -/
def restartCapu (c : Capu) : Capu :=
  { lines := mapAll (fun x => { x with guard := none, latch := none }) c.lines, queue := [] }

/-- R174: does DMON's restart remove any warning? -/
def restartRemoves (m : Dmon) : Bool := m.warnings.any fun w => w.kind ≠ .oscFallback

/-- R86, R103, R120, R142: is a raise on its way that DMON takes before its restart, and so inserts (log entry 7)? -/
def raiseOnItsWay (n : InFlight) : Bool :=
  n.warn.any fun w =>
    match w with
    | .raise _ _ => true
    | .remove _ => false

/-- R165, R174, R176, R177: SVC at RESTART, the straps read again, the image kept. "Warnings changed" is left as it stands, and
set if DMON's restart removes a warning, as R174 and R177 say; R176 has RESTART clear it otherwise (DESIGN CHOICE, log entry
12). -/
def restartSvc (straps : Straps) (m : Dmon) (n : InFlight) (v : Svc) : Svc :=
  { v with
    station := straps.stn.toFin
    ftCode := straps.ft
    maskCapture := true
    maskWarnings := true
    maskSchedule := true
    warningsChanged := v.warningsChanged || restartRemoves m || raiseOnItsWay n
    capCond := false
    schedCond := false }

/-- What is on its way at RESTART: what goes to SPAN or PTAB, from PTAB to DMON, and the raises and removals of AGU, ANCH and
CAPU are taken before the restart clears them; a posting of a round close or review is never applied (R17); the rest meets the
restarted blocks (R23, R61, R63, R65, R86, R108, R120, R142, log entry 7). -/
def restartNet (n : InFlight) : InFlight :=
  { n with postAgu := [], postDmon := [], roundStart := [], handOffs := [], toDmon := [], dissent := [], warn := [] }

/-- R165: every block takes its restart. -/
def restartAll (straps : Straps) (s : State) : State :=
  { s with
    eclk := restartEclk s.eclk
    span := restartSpan s.span
    ptab := mapAll (fun _ => PeerRecord.reset) s.ptab
    agu := restartAgu s.agu
    dmon := restartDmon s.dmon
    anch := restartAnch s.anch
    capu := restartCapu s.capu
    msch := Msch.reset
    svc := restartSvc straps s.dmon s.net s.svc
    net := restartNet s.net }

end Sys2Proof.Machine
end

