-- ==== Sys2Proof/Machine/Frames.lean ====
section
/-! DEFINITION. The beacon on the pair: the sync mark, the byte layout, the check, and reading a frame back (R22, R32, R33, R178,
R179). -/

namespace Sys2Proof.Machine

/-- What the receiver makes of one bit time (R19): idle, a transition that gives a bit value, or the contention level. -/
inductive LineSymbol where
  | idle
  | bit (b : Bool)
  | contention
deriving DecidableEq, Repr

/-- R178: a bit value of 1 is driven positive and then negative, a 0 the other way round. -/
def halvesOfBit (b : Bool) : BitHalves :=
  if b then { first := .positive, second := .negative } else { first := .negative, second := .positive }

/-- R19, R178: how the receiver classes a bit time. A transition between the two driven levels at the middle is a bit value; the
contention level for more than half the bit time, and so in both halves, is a symbol error; neither is idle (log entry 37). -/
def classBitTime (h : BitHalves) : LineSymbol :=
  match h.first, h.second with
  | .positive, .negative => .bit true
  | .negative, .positive => .bit false
  | .contention, .contention => .contention
  | _, _ => .idle

/-- R178: the sync mark. -/
def syncBytes : List Byte := [0xE1, 0x5A]

/-- A byte's bits, most significant first (R20, R178). -/
def bitsOfByte (b : Byte) : List Bool :=
  [b.getLsbD 7, b.getLsbD 6, b.getLsbD 5, b.getLsbD 4, b.getLsbD 3, b.getLsbD 2, b.getLsbD 1, b.getLsbD 0]

/-- The bits of bytes in the order they are sent. -/
def bitsOfBytes (bs : List Byte) : List Bool := bs.flatMap bitsOfByte

/-- The byte that eight bits make, most significant first. -/
def byteOfBits (bits : List Bool) : Byte := BitVec.ofNat 8 (bits.foldl (fun acc b => 2 * acc + b.toNat) 0)

/-- The first `8 * n` bits gathered into `n` bytes, each most significant bit first (R20, R167). -/
def bytesOfBits : Nat → List Bool → List Byte
  | 0, _ => []
  | n + 1, bits => byteOfBits (bits.take 8) :: bytesOfBits n (bits.drop 8)

/-- R179: one data bit taken into the CRC-16 register, generator polynomial 0x1021. -/
def crcBit (crc : BitVec 16) (b : Bool) : BitVec 16 :=
  if crc.msb != b then (crc <<< 1) ^^^ 0x1021 else crc <<< 1

/-- R179: the CRC-16 of bytes, initial register 0xFFFF, no reflection, no final inversion. -/
def crc16 (bs : List Byte) : BitVec 16 := (bitsOfBytes bs).foldl crcBit 0xFFFF

/-- R178: the flags byte of a beacon; bits 1 and 0 are sent as 0. -/
def beaconFlagsByte (f : BeaconFlags) : Byte :=
  BitVec.ofNat 8
    (128 * f.anchored.toNat + 64 * f.lone.toNat + 32 * f.holdover.toNat + 16 * f.humble.toNat + 8 * f.unset.toNat
      + 4 * f.stepped.toNat)

/-- R178: the six flags of a flags byte; bits 1 and 0 are ignored on receipt. -/
def beaconFlagsOf (b : Byte) : BeaconFlags where
  anchored := b.getLsbD 7
  lone := b.getLsbD 6
  holdover := b.getLsbD 5
  humble := b.getLsbD 4
  unset := b.getLsbD 3
  stepped := b.getLsbD 2

/-- A station number as a byte. -/
def stationByte (p : Station) : Byte := BitVec.ofNat 8 p.val

/-- R178: bytes 2 to 24 + N of a beacon, the station number through the last accusation. -/
def beaconBody (station : Station) (f : LaunchFields) : List Byte :=
  [stationByte station, f.seq, beaconFlagsByte f.flags, BitVec.ofNat 8 f.code.code]
    ++ beBytes 4 f.deferral
    ++ beBytes 6 (f.stamp / Config.nsPerSecond) ++ beBytes 4 (f.stamp % Config.nsPerSecond)
    ++ beBytes 4 f.statedUnc
    ++ [BitVec.ofNat 8 (f.accusations.getD []).length] ++ (f.accusations.getD []).map stationByte

/-- R178, R179: the whole frame, 27 + N bytes. -/
def beaconBytes (station : Station) (f : LaunchFields) : List Byte :=
  syncBytes ++ beaconBody station f ++ beBytes 2 (crc16 (beaconBody station f)).toNat

/-- The bits of the frame in SENDING: before the launch point only the sync mark is known (R28, R31). -/
def drivenBits (station : Station) : Option LaunchFields → List Bool
  | none => bitsOfBytes syncBytes
  | some f => bitsOfBytes (beaconBytes station f)

/-- What a well-formed frame says (R22, R23, R178). -/
structure Frame where
  station : Station
  seq : BitVec 8
  flags : BeaconFlags
  period : Period
  deferral : Nat
  launch : Nat
  statedUnc : Nat
  accusations : List Station
deriving DecidableEq, Repr

/-- A byte read as a station number, 0 to 31 (R22). -/
def stationOfByte (b : Byte) : Option Station := if h : b.toNat < 32 then some ⟨b.toNat, h⟩ else none

/-- Every byte read as a station number, or none if one is none (R22). -/
def stationsOfBytes : List Byte → Option (List Station)
  | [] => some []
  | b :: bs =>
    match stationOfByte b, stationsOfBytes bs with
    | some p, some ps => some (p :: ps)
    | _, _ => none

/-- R22: the frame in the bytes after the sync mark, if they are well-formed: at most 4 accusations, 25 bytes and the
accusations, the check right, the station number and every accusation a station number, the interval code one of the five, and
the launch stamp's ns field in range. -/
def parseFrame (bs : List Byte) : Option Frame :=
  let count := (bs.getD 22 0).toNat
  if 4 < count || bs.length ≠ 25 + count then none
  else if (crc16 (bs.take (23 + count))).toNat ≠ beNat (bs.drop (23 + count)) then none
  else
    let launchNs := beNat ((bs.drop 14).take 4)
    match stationOfByte (bs.getD 0 0), periodOfCode (bs.getD 3 0).toNat, stationsOfBytes ((bs.drop 23).take count) with
    | some p, some period, some acc =>
      if launchNs < Config.nsPerSecond then
        some
          { station := p
            seq := bs.getD 1 0
            flags := beaconFlagsOf (bs.getD 2 0)
            period := period
            deferral := beNat ((bs.drop 4).take 4)
            launch := beNat ((bs.drop 8).take 6) * Config.nsPerSecond + launchNs
            statedUnc := beNat ((bs.drop 18).take 4)
            accusations := acc }
      else none
    | _, _, _ => none

/-- R22: the frame a reception carried, if it ended on an idle bit time with a whole number of bytes and is well-formed. -/
def frameOf (r : Reception) : Option Frame :=
  if r.how = .idle && r.bits.length % 8 = 0 then parseFrame (bytesOfBits (r.bits.length / 8) r.bits) else none

end Sys2Proof.Machine
end

