-- ==== Sys2Proof/Machine/Bodies.lean ====
section
/-! DEFINITION. The bytes of the responses (R180, R181): the codes, the kinds of item, and the body of each response after its
8-byte tick. Codings that R181 leaves open are in log entry 27. -/

namespace Sys2Proof.Machine

/-! ## Codes -/

/-- R180: the status words. -/
def Status.code : Status → Byte
  | .ok => 0x00
  | .empty => 0x01
  | .notSettled => 0x02
  | .busy => 0x03
  | .wrongState => 0x04
  | .badIndex => 0x05
  | .notReady => 0x06
  | .unknownRequest => 0x07

/-- R181: a sync state. -/
def SyncState.code : SyncState → Byte
  | .config => 0
  | .listen => 1
  | .lone => 2
  | .agreed => 3
  | .holdover => 4

/-- R181: an oscillator selection. -/
def OscSelection.code : OscSelection → Byte
  | .primary => 0
  | .backup => 1

/-- R181: a warning kind. -/
def WarningKind.code : WarningKind → Byte
  | .peerDrifting => 1
  | .selfDrifting => 2
  | .selfAccused => 3
  | .noAgreement => 4
  | .anchorLost => 5
  | .overflow => 6
  | .duplicateNumber => 7
  | .oscFallback => 8

/-- R25, R181: in the order of the table of R25. -/
def TxState.code : TxState → Byte
  | .quiet => 0
  | .waiting => 1
  | .deferring => 2
  | .sending => 3
  | .muted => 4

/-- R39, R181: in the order of the table of R39. -/
def LinkState.code : LinkState → Byte
  | .absent => 0
  | .listening => 1
  | .admitted => 2
  | .barred => 3
  | .silent => 4

/-- R87, R181: in the order of the table of R87. -/
def Verdict.code : Verdict → Byte
  | .steady => 0
  | .suspect => 1
  | .drifting => 2
  | .easing => 3

/-- R84, R181: in the order of the row "outcome" of R84's table. Chapter 4 has two tables of outcomes, and R75's names SPARSE,
AGREED, SPLIT; that R181 means R84's, and that NONE comes last, is the model's choice (DESIGN CHOICE, log entry 27). -/
def RoundOutcome.code : RoundOutcome → Byte
  | .agreed => 0
  | .split => 1
  | .sparse => 2
  | .none => 3

/-- R84, R181: in the order of the table of R84. -/
def Application.code : Application → Byte
  | .slew => 0
  | .step => 1
  | .anchorFollow => 2
  | .none => 3

/-- R99, R181: chapter 5 has no table of review outcomes. CONCLUSIVE before INCONCLUSIVE is the order of R99's sentence, and NONE
comes last (DESIGN CHOICE, log entry 27). -/
def ReviewOutcome.code : ReviewOutcome → Byte
  | .conclusive => 0
  | .inconclusive => 1
  | .none => 2

/-- R109, R181: in the order of the table of R109. -/
def AnchorState.code : AnchorState → Byte
  | .unarmed => 0
  | .armed => 1
  | .qualified => 2
  | .lost => 3

/-- R181: the direction of an edge. -/
def Edge.code : Edge → Byte
  | .rising => 0
  | .falling => 1

/-- R180: an edge setting. R181 names no coding for one in a response, which takes this one too (DESIGN CHOICE, log entry
27). -/
def EdgeSetting.code : EdgeSetting → Byte
  | .rising => 0
  | .falling => 1
  | .both => 2

/-- R181: the state of a capture entry. -/
def EntryState.code : EntryState → Byte
  | .pending => 0
  | .settled => 1
  | .overdue => 2

/-- R143, R180, R181: a mode. -/
def Mode.code : Mode → Byte
  | .single => 0
  | .finite => 1
  | .cyclic => 2

/-- R180: a guard. R181 names no coding for one in a response, which takes this one too (DESIGN CHOICE, log entry 27). -/
def Guard.code : Guard → Byte
  | .none => 0
  | .agreedOnly => 1
  | .bound _ => 2

/-! ## Kinds of item (R181) -/

/-- `n` bytes of ones, the coding of none. -/
def ones (n : Nat) : List Byte := List.replicate n 0xFF

/-- A flag. -/
def flagItem (b : Bool) : List Byte := [if b then 0x01 else 0x00]

/-- A signed whole number in `n` bytes, two's complement. -/
def signedBytes (n : Nat) (x : Int) : List Byte := beBytes n (x % (256 ^ n : Nat)).toNat

/-- A count or number of `n` bytes, or none. -/
def countItem (n : Nat) : Option Nat → List Byte
  | none => ones n
  | some v => beBytes n v

/-- A tick, or none. -/
def tickItem (t : Option Tick) : List Byte := countItem 8 t

/-- A tick that may lie before tick 0, as its low 64 bits (log entry 14). -/
def signedTickItem : Option Int → List Byte
  | none => ones 8
  | some t => signedBytes 8 t

/-- Ensemble time, or none. -/
def timeItem : Option Nat → List Byte
  | none => ones 10
  | some ns => beBytes 6 (ns / Config.nsPerSecond) ++ beBytes 4 (ns % Config.nsPerSecond)

/-- Signed ns, or none. -/
def signedNsItem : Option Int → List Byte
  | none => beBytes 8 9223372036854775808
  | some x => signedBytes 8 x

/-- A sign byte: 0 for zero or above, 1 below zero. -/
def signByte (x : Int) : Byte := if x < 0 then 0x01 else 0x00

/-- A signed time, or none. -/
def signedTimeItem : Option Int → List Byte
  | none => 0xFF :: List.replicate 10 0x00
  | some x => signByte x :: timeItem (some x.natAbs)

/-- An uncertainty, a bound, h, a base or u_ref; all ones when absent. -/
def uncItem : Option Nat → List Byte
  | none => ones 4
  | some u => beBytes 4 u

/-- A trim, phase, rate, d or ρref, or none. -/
def termItem : Option Int → List Byte
  | none => beBytes 4 2147483648
  | some x => signedBytes 4 x

/-- A list of station numbers. -/
def stationsItem (ps : List Station) : List Byte := BitVec.ofNat 8 ps.length :: ps.map stationByte

/-- A mark output or a chain, 0xFF for none. -/
def numberOrNone {n : Nat} : Option (Fin n) → List Byte
  | none => [0xFF]
  | some i => [BitVec.ofNat 8 i.val]

/-- A profile: its window, 4 for DEFAULT, 0xFF for none. -/
def profileItem : Option ProfileSel → List Byte
  | none => [0xFF]
  | some .dflt => [0x04]
  | some (.window w) => [BitVec.ofNat 8 w.val]

/-! ## The header and the buffer (R167, R180) -/

/-- R180: the five bytes of a response's header. -/
def headerBytes (b : Buffer) : List Byte :=
  [b.status.code, b.code] ++ flagItem b.overrun ++ beBytes 2 b.body.length

/-- R167: what SVC shifts out in a transaction of `n` bytes that begins now. -/
def shiftedOut (s : State) (n : Nat) : List Byte := shiftOut (headerBytes s.svc.buffer) s.svc.buffer n

/-! ## DATE, PEEK, TAKE, WARNINGS, SETTIME (R181) -/

/-- R139, R181: DATE. -/
def dateBody (s : State) : List Byte :=
  timeItem (some (clockNs s)) ++ uncItem (some (ownU s))
    ++ [s.agu.sync.code, stationFlagsByte s.agu.unset s.agu.humble s.span.mutedFlag (anchoredFlag s), s.osc.selection.code]

/-- R127, R135, R181: a capture entry, 34 bytes. -/
def captureBytes (e : CapEntry) : List Byte :=
  [BitVec.ofNat 8 e.line.val, e.edge.code] ++ beBytes 8 e.tick ++ signedTimeItem (some e.ts) ++ beBytes 4 e.unc
    ++ [e.sync.code, stationFlagsByte e.unset e.humble e.muted e.anchored, e.osc.code]
    ++ flagItem e.label.isSome ++ beBytes 2 (e.label.getD 0).toNat
    ++ [BitVec.ofNat 8 e.followers, e.state.code, BitVec.ofNat 8 e.rebased]

/-- R102, R181: a warning, 16 bytes. -/
def warningBytes (w : Warning) : List Byte :=
  [w.kind.code]
    ++ (match w.subject with | .own => [0xFF] | .peer p => [stationByte p])
    ++ timeItem (some w.time) ++ signedBytes 4 w.value

/-- R174, R181: WARNINGS. -/
def warningsBody (ws : List Warning) : List Byte := BitVec.ofNat 8 ws.length :: ws.flatMap warningBytes

/-! ## CONFIGURE (R163, R181) -/

/-- The scalar settings, in selector order. -/
def scalarBytes (img : Image) : List Byte :=
  [BitVec.ofNat 8 img.period.code] ++ beBytes 1 img.ownTol ++ beBytes 4 img.stepThreshold ++ beBytes 2 img.slewLimit
    ++ beBytes 2 img.settleMs ++ beBytes 1 img.reviewS

/-- The attributes of a profile, in selector order. -/
def attrBytes (a : ProfileAttrs) : List Byte :=
  beBytes 3 a.pathDelay ++ beBytes 4 a.pathUnc ++ beBytes 1 a.aging ++ beBytes 3 a.driftLimit ++ beBytes 1 a.accept

/-- A profile window, in selector order. -/
def windowBytes (w : ProfileWindow) : List Byte := beBytes 1 w.first ++ beBytes 1 w.last ++ attrBytes w.attrs

/-- A capture line setup, in selector order. -/
def setupBytes (l : LineSetup) : List Byte := flagItem l.enabled ++ [l.edge.code] ++ beBytes 3 l.guardNs

/-- R163, R181: CONFIGURE. -/
def imageBody (img : Image) : List Byte :=
  scalarBytes img ++ img.windows.toList.flatMap windowBytes ++ attrBytes img.dflt ++ img.lines.toList.flatMap setupBytes

/-! ## STATUS (R172) -/

/-- R84, R85: the agreement record. An emptied record, whose application R84 and R86 leave absent, is sent with application NONE
(DESIGN CHOICE, log entry 27). -/
def recordBytes (r : AgreementRecord) : List Byte :=
  [r.outcome.code] ++ timeItem (r.close.map Prod.fst) ++ tickItem (r.close.map Prod.snd) ++ countItem 1 r.n ++ countItem 1 r.c
    ++ signedTimeItem (r.region.map Prod.fst) ++ signedTimeItem (r.region.map Prod.snd) ++ signedTimeItem r.corr ++ uncItem r.h
    ++ [r.application.code]
    ++ (match r.posted with
        | some (.phase v) => termItem (some v) ++ signedTimeItem none
        | some (.step c) => termItem none ++ signedTimeItem (some c)
        | some (.trim _) => termItem none ++ signedTimeItem none
        | none => termItem none ++ signedTimeItem none)
    ++ stationsItem r.participants ++ stationsItem r.dissenters ++ uncItem r.newBase ++ flagItem r.baseSet

/-- R172: the part of SVC. -/
def statusSvc (v : Svc) : List Byte :=
  [stationByte v.station, BitVec.ofNat 8 (faultTolerance v.ftCode), BitVec.ofNat 8 v.ftCode.toNat] ++ scalarBytes v.image
    ++ [maskByte v, conditionsByte v] ++ flagItem v.warningsChanged

/-- R15, R172: the part of OSCMON and ECLK. -/
def statusClock (s : State) : List Byte :=
  [s.osc.selection.code] ++ timeItem (some (clockNs s)) ++ termItem (some s.eclk.trim) ++ termItem (some s.eclk.phase)
    ++ signedNsItem (some (phaseTotalNs s))

/-- R38, R172: the part of SPAN. -/
def statusSpan (sp : Span) : List Byte := [sp.tx.code] ++ flagItem sp.mutedFlag ++ [sp.seq]

/-- R85, R172: the part of AGU. -/
def statusAgu (s : State) : List Byte :=
  recordBytes s.agu.record ++ [s.agu.sync.code] ++ flagItem s.agu.unset ++ flagItem s.agu.humble ++ flagItem s.agu.stepped
    ++ uncItem (some s.agu.base) ++ tickItem (some s.agu.baseTick) ++ uncItem (some (ownU s)) ++ beBytes 2 s.agu.run
    ++ tickItem s.agu.roundTimer

/-- R99, R107: the review record. -/
def reviewBytes (r : ReviewRecord) : List Byte :=
  tickItem r.tick ++ [r.outcome.code] ++ countItem 1 r.k ++ termItem r.ref ++ termItem r.ownD ++ termItem r.trim

/-- R107, R172: the part of DMON. -/
def statusDmon (s : State) : List Byte :=
  [s.dmon.ownVerdict.code] ++ termItem (some s.dmon.ownD) ++ reviewBytes s.dmon.review ++ tickItem s.dmon.reviewTimer
    ++ stationsItem (accusationList s)

/-- R119, R172: the part of ANCH. -/
def statusAnch (a : Anch) : List Byte :=
  [a.state.code] ++ countItem 7 a.s ++ uncItem (some a.uRef) ++ signedTimeItem a.alpha
    ++ [BitVec.ofNat 8 a.good, BitVec.ofNat 8 a.miss] ++ tickItem (a.window.map AnchorWindow.expected)
    ++ countItem 2 (a.window.map AnchorWindow.half) ++ tickItem a.lastGood

/-- How many entries of a queue are in this state. -/
def countInState (st : EntryState) (q : List CapEntry) : Nat := (q.filter fun e => e.state = st).length

/-- R141: a capture line in STATUS. The value of a label latch that is not armed is sent as two bytes of 0 behind the clear flag
(DESIGN CHOICE, log entry 27). -/
def capLineBytes (setup : LineSetup) (x : CapLine) : List Byte :=
  setupBytes setup ++ flagItem x.latch.isSome ++ beBytes 2 (x.latch.getD 0).toNat ++ flagItem x.guard.isSome
    ++ tickItem (x.guard.map LineGuard.closing) ++ flagItem ((x.guard.bind LineGuard.link).isSome)

/-- R141, R172: the part of CAPU. -/
def statusCapu (s : State) : List Byte :=
  beBytes 1 s.capu.queue.length ++ beBytes 1 (countInState .pending s.capu.queue)
    ++ beBytes 1 (countInState .settled s.capu.queue) ++ beBytes 1 (countInState .overdue s.capu.queue)
    ++ beBytes 2 s.svc.image.settleMs
    ++ (List.finRange 8).flatMap fun l => capLineBytes s.svc.image.lines[l] s.capu.lines[l]

/-- R159, R172: the part of MSCH. R181 has no kind of item for a mark line's level; it is sent as a flag, 1 for high (DESIGN
CHOICE, log entry 27). -/
def statusMsch (m : Msch) : List Byte :=
  (m.entries.toList.flatMap fun e =>
      flagItem e.armed ++ flagItem e.staged ++ flagItem e.completion ++ flagItem e.late ++ flagItem e.chainRefused)
    ++ m.lines.toList.flatMap fun l => flagItem l.high ++ tickItem l.release

/-- R172: STATUS. -/
def statusBody (s : State) : List Byte :=
  statusSvc s.svc ++ statusClock s ++ statusSpan s.span ++ statusAgu s ++ statusDmon s ++ statusAnch s.anch ++ statusCapu s
    ++ statusMsch s.msch

/-! ## PEER (R60, R107, R173) -/

/-- The six flags of a beacon as flag items, in the order of R33. -/
def beaconFlagItems (f : BeaconFlags) : List Byte :=
  flagItem f.anchored ++ flagItem f.lone ++ flagItem f.holdover ++ flagItem f.humble ++ flagItem f.unset ++ flagItem f.stepped

/-- R60: the latest observation, or that there is none. -/
def observationBytes : Option Observation → List Byte
  | none =>
    flagItem false ++ signedNsItem none ++ uncItem none ++ signedNsItem none ++ tickItem none ++ uncItem none
      ++ List.replicate 6 0x00
  | some o =>
    flagItem true ++ signedNsItem (some o.theta) ++ uncItem (some o.eps0) ++ signedNsItem (some o.thetaP)
      ++ tickItem (some o.arrivalTick) ++ uncItem (some o.statedUnc) ++ beaconFlagItems o.flags

/-- R60: the part of PTAB. -/
def peerRecordBytes (r : PeerRecord) : List Byte :=
  [r.link.code] ++ profileItem r.profile ++ [r.lastSeq] ++ signedTickItem (some r.lastSched)
    ++ countItem 2 (r.interval.map Period.ms) ++ [BitVec.ofNat 8 r.inBeat, BitVec.ofNat 8 r.dissent]
    ++ tickItem r.barExpiry ++ signedTickItem r.silenceExpiry ++ flagItem r.accusesMe ++ observationBytes r.obs

/-- R107: the part of DMON. -/
def driftBytes (s : State) (p : Station) : List Byte :=
  let r := s.dmon.drift[p]
  beBytes 1 r.window.length ++ termItem r.rate ++ flagItem r.fresh ++ [r.verdict.code] ++ termItem (some r.d)
    ++ flagItem ((accusationList s).contains p)

/-- R173: PEER. -/
def peerBody (s : State) (p : Station) : List Byte := peerRecordBytes s.ptab[p] ++ driftBytes s p

/-! ## ENTRY (R147) -/

/-- The bound of a BOUND guard; all ones when the guard has none. -/
def guardBound : Guard → Option Nat
  | .bound b => some b
  | .none => none
  | .agreedOnly => none

/-- R143: the fields of a copy from its period to its report flag. -/
def programBytes (p : Program) : List Byte :=
  beBytes 5 p.period ++ beBytes 2 p.count ++ beBytes 2 p.reload ++ numberOrNone p.output ++ beBytes 2 p.width
    ++ [p.guard.code] ++ uncItem (guardBound p.guard) ++ numberOrNone p.chain ++ flagItem p.report

/-- R147: ENTRY. -/
def entryBody (e : SchedEntry) : List Byte :=
  flagItem e.armed ++ [e.live.mode.code] ++ timeItem (some e.fire) ++ programBytes e.live ++ beBytes 2 e.skipped
    ++ beBytes 2 e.suppressed ++ flagItem e.completion ++ flagItem e.late ++ flagItem e.chainRefused
    ++ [e.staging.mode.code] ++ timeItem e.stagingFire ++ programBytes e.staging ++ flagItem e.staged

end Sys2Proof.Machine
end

