-- ==== Sys2Proof/Machine/Operands.lean ====
section
/-! DEFINITION. The operands of the requests: wire bytes to indices, and values clamped to their ranges (R41, R122, R144, R162,
R163, R166, R180). -/

namespace Sys2Proof.Machine

/-- A wire byte read as an index below `n`, or none (BAD_INDEX, R171). -/
def indexBelow (n : Nat) (b : Byte) : Option (Fin n) := if h : b.toNat < n then some ⟨b.toNat, h⟩ else none

/-- R180: an output or a chain byte: a number below `n`, or 0xFF for none, or neither (BAD_INDEX). -/
def optionalIndex (n : Nat) (b : Byte) : Option (Option (Fin n)) :=
  if b = 0xFF then some none else (indexBelow n b).map some

/-- R166: v as the clock in ns, its ns field clamped to 999,999,999. -/
def settimeNs (sec : BitVec 48) (ns : BitVec 32) : Nat :=
  sec.toNat * Config.nsPerSecond + min (Config.nsPerSecond - 1) ns.toNat

/-- R110: the anchor seconds; 48 bits hold no more than the range. -/
def anchorSeconds (sec : BitVec 48) : Nat := min Config.maxSeconds sec.toNat

/-- R110: the reference uncertainty, clamped to 1,000,000 ns. -/
def anchorUncertainty (u : BitVec 32) : Nat := min 1000000 u.toNat

/-- R180: a mode code; one beyond those listed is the last listed. -/
def modeOfByte (b : Byte) : Mode := if b = 0 then .single else if b = 1 then .finite else .cyclic

/-- R144, R180: a guard code and its bound; a code beyond those listed is the last listed, and the bound stays below UNBOUNDED. -/
def guardOf (b : Byte) (bound : BitVec 32) : Guard :=
  if b = 0 then .none else if b = 1 then .agreedOnly else .bound (min (Config.unbounded - 1) bound.toNat)

/-- R144: the staging fields that STAGE clamps and holds; the indices have been checked. -/
def stagedProgram (a : StageArgs) (output : Option MarkLineNo) (chain : Option EntryNo) : Program where
  mode := modeOfByte a.mode
  period := clampNat 1000 1000000000000 a.period.toNat
  count := clampNat 1 65535 a.count.toNat
  reload := clampNat 1 65535 a.reload.toNat
  output := output
  width := ceilDiv (clampNat 40 1000000 a.width.toNat) Config.nsPerTick
  guard := guardOf a.guard a.bound
  chain := chain
  report := a.report

/-- R144, R180: the staging fire time in ns, its ns field clamped, or absent. -/
def stagedFire (a : StageArgs) : Option Nat := a.fire.map fun f => settimeNs f.1 f.2

/-! ## CONFIGURE (R163, R180) -/

/-- Which setting a selector names. -/
inductive Setting where
  | period
  | ownTol
  | stepThreshold
  | slewLimit
  | settleLimit
  | reviewPeriod
  | first
  | last
  | pathDelay
  | pathUnc
  | aging
  | driftLimit
  | accept
  | enabled
  | edge
  | guard
deriving DecidableEq, Repr

/-- R180: the setting a selector names, if it is listed. -/
def settingOf (sel : Byte) : Option Setting :=
  if sel = 0x01 then some .period
  else if sel = 0x02 then some .ownTol
  else if sel = 0x03 then some .stepThreshold
  else if sel = 0x04 then some .slewLimit
  else if sel = 0x05 then some .settleLimit
  else if sel = 0x06 then some .reviewPeriod
  else if sel = 0x10 then some .first
  else if sel = 0x11 then some .last
  else if sel = 0x12 then some .pathDelay
  else if sel = 0x13 then some .pathUnc
  else if sel = 0x14 then some .aging
  else if sel = 0x15 then some .driftLimit
  else if sel = 0x16 then some .accept
  else if sel = 0x20 then some .enabled
  else if sel = 0x21 then some .edge
  else if sel = 0x22 then some .guard
  else none

/-- R180: the largest index that a setting's item may carry; none where the index is ignored. For a first or last station index
4 is no window outside the table but a setting the part does not have, so it passes here and fails `hasSetting`. -/
def indexLimit : Setting → Option Nat
  | .period => none
  | .ownTol => none
  | .stepThreshold => none
  | .slewLimit => none
  | .settleLimit => none
  | .reviewPeriod => none
  | .first => some 4
  | .last => some 4
  | .pathDelay => some 4
  | .pathUnc => some 4
  | .aging => some 4
  | .driftLimit => some 4
  | .accept => some 4
  | .enabled => some 7
  | .edge => some 7
  | .guard => some 7

/-- R163, step 2: does the item name a window or a line outside its table? -/
def itemOutsideTable (i : CfgItem) : Bool :=
  match settingOf i.selector with
  | none => false
  | some st =>
    match indexLimit st with
    | none => false
    | some top => top < i.index.toNat

/-- R163, step 3: does the item name a setting the part has? -/
def itemNamesSetting (i : CfgItem) : Bool :=
  match settingOf i.selector with
  | none => false
  | some .first => i.index.toNat ≠ 4
  | some .last => i.index.toNat ≠ 4
  | some _ => true

/-- R122, R180: an edge setting; a value beyond those it has is the last of them, BOTH. -/
def edgeSettingOf (v : Nat) : EdgeSetting := if v = 0 then .rising else if v = 1 then .falling else .both

/-- R162: a round period code clamped to 0 to 4. -/
def periodSetting (v : Nat) : Period := (periodOfCode (min 4 v)).getD .ms2000

/-- Change one attribute of a profile, clamped to its range (R41). -/
def setAttr (st : Setting) (v : Nat) (a : ProfileAttrs) : ProfileAttrs :=
  match st with
  | .pathDelay => { a with pathDelay := min 100000 v }
  | .pathUnc => { a with pathUnc := min 100000 v }
  | .aging => { a with aging := clampNat 1 100 v }
  | .driftLimit => { a with driftLimit := clampNat 100 100000 v }
  | .accept => { a with accept := min 3 v }
  | _ => a

/-- Change one item of a window, clamped to its range (R41, R163). -/
def setWindow (st : Setting) (v : Nat) (w : ProfileWindow) : ProfileWindow :=
  match st with
  | .first => { w with first := min 31 v }
  | .last => { w with last := min 31 v }
  | _ => { w with attrs := setAttr st v w.attrs }

/-- Change one item of a line setup, clamped to its range (R122, R163, R180). -/
def setLine (st : Setting) (v : Nat) (l : LineSetup) : LineSetup :=
  match st with
  | .enabled => { l with enabled := v ≠ 0 }
  | .edge => { l with edge := edgeSettingOf v }
  | .guard => { l with guardNs := min 1000000 v }
  | _ => l

/-- R163, step 4: one item's value goes into the image, clamped to the nearest end of its range. -/
def applyItem (img : Image) (i : CfgItem) : Image :=
  let v := i.value.toNat
  match settingOf i.selector with
  | none => img
  | some .period => { img with period := periodSetting v }
  | some .ownTol => { img with ownTol := clampNat 1 100 v }
  | some .stepThreshold => { img with stepThreshold := clampNat 1000 1000000000 v }
  | some .slewLimit => { img with slewLimit := clampNat 10 500 v }
  | some .settleLimit => { img with settleMs := clampNat 1 10000 v }
  | some .reviewPeriod => { img with reviewS := clampNat 4 64 v }
  | some .enabled => { img with lines := mapNumbered (fun l x => if l.val = i.index.toNat then setLine .enabled v x else x) img.lines }
  | some .edge => { img with lines := mapNumbered (fun l x => if l.val = i.index.toNat then setLine .edge v x else x) img.lines }
  | some .guard => { img with lines := mapNumbered (fun l x => if l.val = i.index.toNat then setLine .guard v x else x) img.lines }
  | some st =>
    if i.index.toNat = 4 then { img with dflt := setAttr st v img.dflt }
    else { img with windows := mapNumbered (fun w x => if w.val = i.index.toNat then setWindow st v x else x) img.windows }

/-- R163, step 4: a whole new image; what no item names takes its default, and a later item for a setting is the one taken. -/
def buildImage (items : List CfgItem) : Image := items.foldl applyItem Image.default

end Sys2Proof.Machine
end

