-- ==== Sys2Proof/Machine/Service.lean ====
section
/-! DEFINITION. The service port (chapter 9): every request, the overrun, the ill-formed request and the placing of the full
response. Each request is `takeRequest` of its code and of what it reads, changes and answers. -/

namespace Sys2Proof.Machine

/-- An answer that changes no block: the status, and the body after the tick. -/
def unchanged (status : Status) (body : List Byte) (s : State) : State × Status × List Byte := (s, status, body)

/-! ## CONFIGURE, START, RESTART, SETTIME, ANCHOR -/

/-- R163: CONFIGURE, its checks in the rule's order. -/
def takeConfigure (items : List CfgItem) (s : State) : State × Status × List Byte :=
  if s.agu.sync ≠ .config then unchanged .wrongState [] s
  else if items.any itemOutsideTable then unchanged .badIndex [] s
  else if items.any (fun i => !(itemNamesSetting i)) then unchanged .unknownRequest [] s
  else (s.onSvc fun v => { v with image := buildImage items }, .ok, imageBody (buildImage items))

/-- CONFIGURE (R163). -/
def execConfigure (items : List CfgItem) (s : State) : Host.Outcome State Fault Refusal :=
  .next (takeRequest 0x01 (takeConfigure items) s)

/-- R41, R42: does the window cover the station? -/
def covers (w : ProfileWindow) (p : Station) : Bool := w.first ≤ p.val && p.val ≤ w.last

/-- R42: the lowest-numbered window that covers the station, or the default profile. -/
def profileFor (img : Image) (p : Station) : ProfileSel :=
  match (List.finRange 4).find? fun w => covers img.windows[w] p with
  | some w => .window w
  | none => .dflt

/-- R42, R63, R92, R164: the four blocks take START. -/
def startAll (s : State) : State :=
  { s with
    eclk := { s.eclk with hold := false }
    ptab := mapNumbered (fun p r => { r with profile := some (profileFor s.svc.image p) }) s.ptab
    agu := { s.agu with sync := .listen, endListen := some (s.osc.tick + 3 * (ownPeriod s).ticks) }
    dmon := { s.dmon with reviewTimer := some (s.osc.tick + reviewTicks s) } }

/-- R164: START. -/
def takeStart (s : State) : State × Status × List Byte :=
  if s.agu.sync = .config then (startAll s, .ok, []) else unchanged .wrongState [] s

/-- START (R164). -/
def execStart (s : State) : Host.Outcome State Fault Refusal := .next (takeRequest 0x02 takeStart s)

/-- R165, R181: RESTART, which answers the station number and F as now read. -/
def takeRestart (straps : Straps) (s : State) : State × Status × List Byte :=
  (restartAll straps s, .ok, [stationByte straps.stn.toFin, BitVec.ofNat 8 (faultTolerance straps.ft)])

/-- RESTART (R165). -/
def execRestart (straps : Straps) (s : State) : Host.Outcome State Fault Refusal :=
  .next (takeRequest 0x03 (takeRestart straps) s)

/-- R68, R166: SETTIME. -/
def takeSettime (sec : BitVec 48) (ns u : BitVec 32) (s : State) : State × Status × List Byte :=
  if s.agu.unset then
    let c := (settimeNs sec ns : Int) - clockNs s
    ((s.onAgu fun a => { a with base := satUnc (u.toNat + 80), baseTick := s.osc.tick, unset := false }).post .svc (.step c)
    , .ok, timeItem (some (clockNs s)) ++ signedTimeItem (some c))
  else unchanged .wrongState [] s

/-- SETTIME (R166). -/
def execSettime (sec : BitVec 48) (ns u : BitVec 32) (s : State) : Host.Outcome State Fault Refusal :=
  .next (takeRequest 0x04 (takeSettime sec ns u) s)

/-- R110: ANCH takes ANCHOR. -/
def armAnchor (sec : BitVec 48) (uRef : BitVec 32) (a : Anch) : Anch :=
  { a with
    state := .armed
    s := some (anchorSeconds sec)
    uRef := anchorUncertainty uRef
    good := 0
    miss := 0
    window := none
    alpha := none
    lastGood := none }

/-- R110: ANCHOR. -/
def takeAnchor (sec : BitVec 48) (uRef : BitVec 32) (s : State) : State × Status × List Byte :=
  if s.agu.sync = .config then unchanged .wrongState [] s else (s.onAnch (armAnchor sec uRef), .ok, [])

/-- ANCHOR (R110). -/
def execAnchor (sec : BitVec 48) (uRef : BitVec 32) (s : State) : Host.Outcome State Fault Refusal :=
  .next (takeRequest 0x05 (takeAnchor sec uRef) s)

/-! ## DATE, PEEK, TAKE, LABEL -/

/-- R139: DATE. -/
def takeDate (s : State) : State × Status × List Byte := unchanged .ok (dateBody s) s

/-- DATE (R139). -/
def execDate (s : State) : Host.Outcome State Fault Refusal := .next (takeRequest 0x10 takeDate s)

/-- R136: PEEK. -/
def takePeek (s : State) : State × Status × List Byte :=
  match s.capu.queue with
  | [] => unchanged .empty [0x00] s
  | e :: _ => unchanged .ok (beBytes 1 s.capu.queue.length ++ captureBytes e) s

/-- PEEK (R136). -/
def execPeek (s : State) : Host.Outcome State Fault Refusal := .next (takeRequest 0x11 takePeek s)

/-- R137: TAKE. -/
def takeTake (s : State) : State × Status × List Byte :=
  match s.capu.queue with
  | [] => unchanged .empty [0x00] s
  | e :: rest =>
    if e.state = .pending then unchanged .notSettled (beBytes 1 s.capu.queue.length) s
    else (s.removeHead rest, .ok, beBytes 1 rest.length ++ captureBytes e)

/-- TAKE (R137). -/
def execTake (s : State) : Host.Outcome State Fault Refusal := .next (takeRequest 0x12 takeTake s)

/-- R126: LABEL. -/
def takeLabel (line : Byte) (value : BitVec 16) (s : State) : State × Status × List Byte :=
  match indexBelow 8 line with
  | none => unchanged .badIndex [] s
  | some l => (s.onCapu fun c => c.setLine l { c.lines[l] with latch := some value }, .ok, [])

/-- LABEL (R126). -/
def execLabel (line : Byte) (value : BitVec 16) (s : State) : Host.Outcome State Fault Refusal :=
  .next (takeRequest 0x13 (takeLabel line value) s)

/-! ## STAGE, ARM, STOP, ENTRY -/

/-- R144: the staging copy replaced as a whole. -/
def stagedEntry (a : StageArgs) (output : Option MarkLineNo) (chain : Option EntryNo) (e : SchedEntry) : SchedEntry :=
  { e with stagingFire := stagedFire a, staging := stagedProgram a output chain, staged := true }

/-- R144: STAGE, its checks in the rule's order (log entry 26). -/
def takeStage (a : StageArgs) (s : State) : State × Status × List Byte :=
  match indexBelow 16 a.entry, optionalIndex 4 a.output, optionalIndex 16 a.chain with
  | some n, some output, some chain =>
    if s.agu.sync = .config then unchanged .wrongState [] s
    else (s.onMsch fun m => m.setEntry n (stagedEntry a output chain m.entries[n]), .ok, [])
  | _, _, _ => unchanged .badIndex [] s

/-- STAGE (R144). -/
def execStage (a : StageArgs) (s : State) : Host.Outcome State Fault Refusal := .next (takeRequest 0x20 (takeStage a) s)

/-- R145: ARM. -/
def takeArm (n : Byte) (s : State) : State × Status × List Byte :=
  match indexBelow 16 n with
  | none => unchanged .badIndex [] s
  | some n =>
    if s.agu.sync = .config then unchanged .wrongState [] s
    else if s.msch.entries[n].armed then unchanged .busy [] s
    else
      match armable s.msch.entries[n] with
      | none => unchanged .wrongState [] s
      | some t => (s.onMsch fun m => m.armEntry (fireContext s) n t, .ok, [])

/-- ARM (R145). -/
def execArm (n : Byte) (s : State) : Host.Outcome State Fault Refusal := .next (takeRequest 0x21 (takeArm n) s)

/-- R146: STOP. -/
def takeStop (n : Byte) (s : State) : State × Status × List Byte :=
  match indexBelow 16 n with
  | none => unchanged .badIndex [] s
  | some n =>
    if s.agu.sync = .config then unchanged .wrongState [] s
    else (s.onMsch fun m => m.setEntry n { m.entries[n] with armed := false }, .ok, [])

/-- STOP (R146). -/
def execStop (n : Byte) (s : State) : Host.Outcome State Fault Refusal := .next (takeRequest 0x22 (takeStop n) s)

/-- R147: ENTRY, which reads and then clears the completion flag. -/
def takeEntry (n : Byte) (s : State) : State × Status × List Byte :=
  match indexBelow 16 n with
  | none => unchanged .badIndex [] s
  | some n =>
    (s.onMsch fun m => m.setEntry n { m.entries[n] with completion := false }, .ok, entryBody s.msch.entries[n])

/-- ENTRY (R147). -/
def execEntry (n : Byte) (s : State) : Host.Outcome State Fault Refusal := .next (takeRequest 0x23 (takeEntry n) s)

/-! ## STATUS, PEER, WARNINGS, ATTENTION -/

/-- R172: STATUS. -/
def takeStatus (s : State) : State × Status × List Byte := unchanged .ok (statusBody s) s

/-- STATUS (R172). -/
def execStatus (s : State) : Host.Outcome State Fault Refusal := .next (takeRequest 0x30 takeStatus s)

/-- R173: PEER. -/
def takePeer (n : Byte) (s : State) : State × Status × List Byte :=
  match indexBelow 32 n with
  | none => unchanged .badIndex [] s
  | some p => if p = s.svc.station then unchanged .badIndex [] s else unchanged .ok (peerBody s p) s

/-- PEER (R173). -/
def execPeer (n : Byte) (s : State) : Host.Outcome State Fault Refusal := .next (takeRequest 0x31 (takePeer n) s)

/-- R174: WARNINGS, which clears the "warnings changed" flag. -/
def takeWarnings (s : State) : State × Status × List Byte :=
  (s.onSvc fun v => { v with warningsChanged := false }, .ok, warningsBody s.dmon.warnings)

/-- WARNINGS (R174). -/
def execWarnings (s : State) : Host.Outcome State Fault Refusal := .next (takeRequest 0x32 takeWarnings s)

/-- R175, R180: the attention mask from the enables byte. -/
def setMask (enables : Byte) (v : Svc) : Svc :=
  { v with
    maskCapture := enables.getLsbD 0
    maskWarnings := enables.getLsbD 1
    maskSchedule := enables.getLsbD 2 }

/-- R175, R181: ATTENTION, which answers the mask as now set and the conditions that hold. -/
def takeAttention (enables : Byte) (s : State) : State × Status × List Byte :=
  (s.onSvc (setMask enables), .ok, [maskByte (setMask enables s.svc), conditionsByte s.svc])

/-- ATTENTION (R175). -/
def execAttention (enables : Byte) (s : State) : Host.Outcome State Fault Refusal :=
  .next (takeRequest 0x33 (takeAttention enables) s)

/-! ## Overrun, ill-formed requests, placing the response (R168 to R170) -/

/-- OVERRUN (R169). -/
def execOverrun (s : State) : Host.Outcome State Fault Refusal :=
  match s.svc.request with
  | some _ => .next s.overrunMark
  | none => .next s

/-- UNKNOWN_REQUEST (R170). The no-request code makes the transaction a read (R168). -/
def execUnknownRequest (code : Byte) (s : State) : Host.Outcome State Fault Refusal :=
  if code = 0x00 then .next s else .next (takeRequest code (unchanged .unknownRequest []) s)

/-- R168, R169, step 4: the full response goes into the buffer; the overrun mark stays as it stands there. -/
def placeResponse (code : Byte) (r : FullResponse) (v : Svc) : Svc :=
  { v with
    buffer := { status := r.status, code := code, overrun := v.buffer.overrun, body := r.body }
    request := none
    response := none }

/-- FULL_RESPONSE_PLACED (R168). -/
def execFullResponsePlaced (s : State) : Host.Outcome State Fault Refusal :=
  match s.svc.request, s.svc.response with
  | some code, some r => .next (s.onSvc (placeResponse code r))
  | _, _ => .next s

end Sys2Proof.Machine
end

