-- ==== Sys2Proof/Machine/Span.lean ====
section
/-! DEFINITION. SPAN (chapter 2): the receiver bit by bit, the end of a sync mark and the launch point, the frame checks, and
the transmitter. -/

namespace Sys2Proof.Machine

/-! ## BIT_TIME (R19, R20, R28) -/

/-- R19: the idle run after a bit time; it saturates at 65,535. -/
def nextIdleRun (run : Nat) : LineSymbol → Nat
  | .idle => min Config.countLimit (run + 1)
  | .bit _ => 0
  | .contention => 0

/-- R20: HUNTING, with `n` bits of the sync mark matched, takes one more bit value. -/
def matchSync (n : Nat) (b : Bool) (sp : Span) : Span :=
  if (bitsOfBytes syncBytes)[n]? = some b then
    if n + 1 = 16 then { sp with rx := .receiving, rxBits := [], syncDue := true, readings := none }
    else { sp with rx := .matching (n + 1) }
  else { sp with rx := .waitIdle }

/-- R20: a reception ends; what it gathered waits for the frame checks, and the receiver hunts again. -/
def endReception (how : RxEnd) (next : RxPhase) (sp : Span) : Span :=
  { sp with
    rx := next
    rxBits := []
    syncDue := false
    readings := none
    ended := sp.ended ++ [{ bits := sp.rxBits, how := how, readings := sp.readings }] }

/-- R20: the receiver takes one bit time. A 233rd bit value after the sync mark ends the reception. -/
def receiveSymbol (sym : LineSymbol) (sp : Span) : Span :=
  match sp.rx, sym with
  | .waitIdle, .idle => { sp with rx := .ready }
  | .waitIdle, .bit _ => sp
  | .waitIdle, .contention => sp
  | .ready, .idle => sp
  | .ready, .bit b => matchSync 0 b sp
  | .ready, .contention => { sp with rx := .waitIdle }
  | .matching _, .idle => { sp with rx := .ready }
  | .matching n, .bit b => matchSync n b sp
  | .matching _, .contention => { sp with rx := .waitIdle }
  | .receiving, .idle => endReception .idle .ready sp
  | .receiving, .bit b =>
    if 232 ≤ sp.rxBits.length then endReception .overlength .waitIdle sp else { sp with rxBits := sp.rxBits ++ [b] }
  | .receiving, .contention => endReception .symbolError .waitIdle sp

/-- R28: the bit SPAN drives in this bit time, if it drives one. -/
def drivenBit (station : Station) (sp : Span) : Option Bool :=
  if driverSending sp then (drivenBits station sp.frame)[sp.sent]? else none

/-- R28, R178: the two halves that SPAN drives onto the pair in this bit time, or none with the driver released. -/
def drivenPair (s : State) : Option BitHalves := (drivenBit s.svc.station s.span).map halvesOfBit

/-- R28: the driven bit against what the receiver takes. -/
def compareDriven (driven : Option Bool) (sym : LineSymbol) (sp : Span) : Span :=
  match driven with
  | none => sp
  | some b => if sym = .bit b then { sp with sent := sp.sent + 1 } else { sp with mismatched := true }

/-- The accusation list is fixed when its count is driven: a list not given by then is empty (R35, log entry 16). -/
def fixAccusations (f : LaunchFields) : LaunchFields := { f with accusations := some (f.accusations.getD []) }

/-- Byte 24, the accusation count, is reached (R178). -/
def reachCount (sp : Span) : Span :=
  if sp.tx = .sending && 8 * 24 ≤ sp.sent then { sp with frame := sp.frame.map fixAccusations } else sp

/-- R19, R20, R28: SPAN takes one bit time that the receiver classed so. -/
def hearSymbol (station : Station) (sym : LineSymbol) (sp : Span) : Span :=
  let sp := reachCount sp
  { compareDriven (drivenBit station sp) sym (receiveSymbol sym sp) with idleRun := nextIdleRun sp.idleRun sym }

/-- BIT_TIME (R19, R20, R28, R178). Where it falls against TICK is the sender's to say (DESIGN CHOICE, log entry 40). -/
def execBitTime (sym : BitHalves) (s : State) : Host.Outcome State Fault Refusal :=
  .next (s.onSpan (hearSymbol s.svc.station (classBitTime sym)))

/-! ## END_OF_SYNC_MARK (R21, R31 to R35) -/

/-- R21: the three readings. -/
def takeReadings (s : State) : Readings where
  stamp := clockNs s
  tick := s.osc.tick
  phaseTotal := phaseTotalNs s
  own := driverSending s.span

/-- R31 to R35: what the launch point fixes, DMON's list still to come. -/
def launchFields (s : State) : LaunchFields where
  stamp := clockNs s
  tick := s.osc.tick
  deferral := (s.osc.tick - s.span.sched.getD s.osc.tick) * Config.nsPerTick
  seq := s.span.seq
  code := ownPeriod s
  statedUnc := ownU s
  flags := beaconFlagsNow s
  accusations := none

/-- END_OF_SYNC_MARK (R21); for the own sync mark it is the launch point (R31), at which SPAN asks DMON for the accusation
list (R100). -/
def execEndOfSyncMark (s : State) : Host.Outcome State Fault Refusal :=
  if s.span.syncDue then
    .next
      (s.onSpan fun sp =>
        { sp with
          syncDue := false
          readings := some (takeReadings s)
          frame := if driverSending s.span then some (launchFields s) else sp.frame })
  else .next s

/-! ## RECEPTION_END (R22, R23, R24) -/

/-- R24: SPAN enters MUTED; the beacon in hand is dropped. -/
def mute (sp : Span) : Span :=
  { sp with tx := .muted, mutedFlag := true, attempts := 0, sched := none, nextLaunch := none }

/-- R23: what goes to PTAB with a valid frame. -/
def handOffOf (f : Frame) (r : Readings) : HandOff where
  station := f.station
  seq := f.seq
  flags := f.flags
  statedUnc := f.statedUnc
  period := f.period
  deferral := f.deferral
  launch := f.launch
  accusations := f.accusations
  stamp := r.stamp
  tick := r.tick
  phaseTotal := r.phaseTotal

/-- R24: a duplicate frame is heard. The notice to DMON carries the ensemble time at which SPAN makes the raise (R105). SENDING
and MUTED stay as they are (log entry 18). -/
def State.hearDuplicate (s : State) : State :=
  match s.span.tx with
  | .sending => s
  | .muted => s
  | _ => (s.onSpan mute).onNet fun n => { n with duplicates := n.duplicates ++ [clockNs s] }

/-- R22, R23, R24: a well-formed frame is classed by its station number and by the own driver. -/
def State.classFrame (f : Frame) (r : Readings) (s : State) : State :=
  if f.station = s.svc.station then if r.own then s else s.hearDuplicate
  else if r.own then s
  else
    match s.agu.sync with
    | .config => s
    | _ => s.onNet fun n => { n with handOffs := n.handOffs ++ [handOffOf f r] }

/-- RECEPTION_END (R22): the frame checks of the oldest reception that has ended. -/
def execReceptionEnd (s : State) : Host.Outcome State Fault Refusal :=
  match s.span.ended with
  | [] => .next s
  | r :: rest =>
    let s' := s.onSpan fun sp => { sp with ended := rest }
    match frameOf r, r.readings with
    | some f, some rd => .next (s'.classFrame f rd)
    | _, _ => .next s'

/-! ## The transmitter (R26 to R30, R36) -/

/-- R26: the launch of a round is set by where SPAN stands. -/
def takeRoundStart (launch : Tick) (first : Bool) (sp : Span) : Span :=
  match sp.tx with
  | .quiet => if first then { sp with tx := .waiting, sched := some launch, attempts := 0 } else sp
  | .waiting => { sp with sched := some launch, attempts := 0 }
  | .deferring => { sp with nextLaunch := some launch }
  | .sending => { sp with nextLaunch := some launch }
  | .muted => sp

/-- ROUND_START_NOTICE (R26). -/
def execRoundStartNotice (s : State) : Host.Outcome State Fault Refusal :=
  match s.net.roundStart with
  | [] => .next s
  | r :: rest =>
    .next
      ((s.onNet fun n => { n with roundStart := rest }).onSpan (takeRoundStart (r.tick + slotOffset s) r.first))

/-- SCHEDULED_LAUNCH (R27). -/
def execScheduledLaunch (s : State) : Host.Outcome State Fault Refusal :=
  match s.span.tx, s.span.sched with
  | .waiting, some t => if t ≤ s.osc.tick then .next (s.onSpan fun sp => { sp with tx := .deferring }) else .next s
  | _, _ => .next s

/-- R27, R30: may the transmission start in this bit time? Which ticks begin a bit time is not tested: no rule gives the phase of the
two-tick bit times against the tick counter, so TRANSMISSION_START itself says that one begins (DESIGN CHOICE, log entry 40). -/
def startPermitted (s : State) : Bool :=
  s.span.tx = .deferring && requiredIdleRun s.svc.station s.span.attempts ≤ s.span.idleRun
    && s.osc.tick ≤ s.span.sched.getD 0 + deferralLimitTicks s

/-- TRANSMISSION_START (R27). -/
def execTransmissionStart (s : State) : Host.Outcome State Fault Refusal :=
  if startPermitted s then
    .next (s.onSpan fun sp => { sp with tx := .sending, frame := none, sent := 0, mismatched := false })
  else .next s

/-- R26: the beacon in hand is done with, completed or skipped: SPAN waits, and a next launch becomes the scheduled launch. -/
def backToWaiting (sp : Span) : Span :=
  { sp with
    tx := .waiting
    attempts := 0
    sched := sp.nextLaunch
    nextLaunch := none
    frame := none
    sent := 0
    mismatched := false }

/-- R28, R30: the frame is abandoned at a mismatch. -/
def abandonFrame (sp : Span) : Span :=
  if sp.attempts + 1 = 3 then backToWaiting sp
  else { sp with tx := .deferring, attempts := sp.attempts + 1, frame := none, sent := 0, mismatched := false }

/-- MISMATCH (R28, R30). -/
def execMismatch (s : State) : Host.Outcome State Fault Refusal :=
  if s.span.tx = .sending && s.span.mismatched then .next (s.onSpan abandonFrame) else .next s

/-- R30: has the tick counter passed the scheduled launch and the deferral limit, in DEFERRING? -/
def deferralPassed (s : State) : Bool :=
  s.span.tx = .deferring && s.span.sched.getD 0 + deferralLimitTicks s < s.osc.tick

/-- DEFERRAL_LIMIT (R30): the beacon is skipped. -/
def execDeferralLimit (s : State) : Host.Outcome State Fault Refusal :=
  if deferralPassed s then .next (s.onSpan backToWaiting) else .next s

/-- R36: has the last bit of the CRC been driven and matched? -/
def frameSent (s : State) : Bool :=
  driverSending s.span && s.span.frame.isSome && s.span.sent = (drivenBits s.svc.station s.span.frame).length

/-- BEACON_COMPLETION (R36): the sequence advances modulo 256, and AGU gets the completion notice with the launch tick. -/
def execBeaconCompletion (s : State) : Host.Outcome State Fault Refusal :=
  match s.span.frame with
  | none => .next s
  | some f =>
    if frameSent s then
      .next
        ((s.onSpan fun sp => { backToWaiting sp with seq := sp.seq + 1 }).onNet fun n =>
          { n with completion := n.completion ++ [f.tick] })
    else .next s

end Sys2Proof.Machine
end

