-- ==== Sys2Proof/Machine/Dispatch.lean ====
section
/-! DEFINITION. The dispatch: one arm for each command of the table, each one direct call of that command's meaning. -/

namespace Sys2Proof.Machine

/-- What a command does to everything but the queue of commands. -/
def exec (i : Instr) (s : State) : Host.Outcome State Fault Refusal :=
  match i with
  | .fullReset straps => Sys2Proof.Machine.execFullReset straps s
  | .tick caps ref => Sys2Proof.Machine.execTick caps ref s
  | .posting src => Sys2Proof.Machine.execPosting src s
  | .primaryLost => Sys2Proof.Machine.execPrimaryLost s
  | .fallbackNoticeAtAgu => Sys2Proof.Machine.execFallbackNoticeAtAgu s
  | .fallbackNoticeAtAnch => Sys2Proof.Machine.execFallbackNoticeAtAnch s
  | .fallbackNoticeAtDmon => Sys2Proof.Machine.execFallbackNoticeAtDmon s
  | .endOfSyncMark => Sys2Proof.Machine.execEndOfSyncMark s
  | .receptionEnd => Sys2Proof.Machine.execReceptionEnd s
  | .duplicateNotice => Sys2Proof.Machine.execDuplicateNotice s
  | .roundStartNotice => Sys2Proof.Machine.execRoundStartNotice s
  | .scheduledLaunch => Sys2Proof.Machine.execScheduledLaunch s
  | .transmissionStart => Sys2Proof.Machine.execTransmissionStart s
  | .mismatch => Sys2Proof.Machine.execMismatch s
  | .deferralLimit => Sys2Proof.Machine.execDeferralLimit s
  | .beaconCompletion => Sys2Proof.Machine.execBeaconCompletion s
  | .completionNotice => Sys2Proof.Machine.execCompletionNotice s
  | .accusationList => Sys2Proof.Machine.execAccusationList s
  | .handOff => Sys2Proof.Machine.execHandOff s
  | .barExpiry p => Sys2Proof.Machine.execBarExpiry p s
  | .silenceExpiry p => Sys2Proof.Machine.execSilenceExpiry p s
  | .dissentNotice => Sys2Proof.Machine.execDissentNotice s
  | .rebaseNotice => Sys2Proof.Machine.execRebaseNotice s
  | .endOfListen => Sys2Proof.Machine.execEndOfListen s
  | .roundClose => Sys2Proof.Machine.execRoundClose s
  | .stepNoticeAtAgu => Sys2Proof.Machine.execStepNoticeAtAgu s
  | .stepNoticeAtDmon => Sys2Proof.Machine.execStepNoticeAtDmon s
  | .stepNoticeAtAnch => Sys2Proof.Machine.execStepNoticeAtAnch s
  | .stepNoticeAtCapu => Sys2Proof.Machine.execStepNoticeAtCapu s
  | .stepNoticeAtMsch => Sys2Proof.Machine.execStepNoticeAtMsch s
  | .sample => Sys2Proof.Machine.execSample s
  | .leaveNotice => Sys2Proof.Machine.execLeaveNotice s
  | .windowNotice => Sys2Proof.Machine.execWindowNotice s
  | .review => Sys2Proof.Machine.execReview s
  | .raiseNotice k => Sys2Proof.Machine.execRaiseNotice k s
  | .removalNotice k => Sys2Proof.Machine.execRemovalNotice k s
  | .pulse => Sys2Proof.Machine.execPulse s
  | .windowEnd => Sys2Proof.Machine.execWindowEnd s
  | .edgeOfInterest => Sys2Proof.Machine.execEdgeOfInterest s
  | .guardClose l => Sys2Proof.Machine.execGuardClose l s
  | .settle j => Sys2Proof.Machine.execSettle j s
  | .overdue j => Sys2Proof.Machine.execOverdue j s
  | .headStandingReport => Sys2Proof.Machine.execHeadStandingReport s
  | .fire e => Sys2Proof.Machine.execFire e s
  | .markRelease l => Sys2Proof.Machine.execMarkRelease l s
  | .scheduleReport => Sys2Proof.Machine.execScheduleReport s
  | .configure items => Sys2Proof.Machine.execConfigure items s
  | .start => Sys2Proof.Machine.execStart s
  | .restart straps => Sys2Proof.Machine.execRestart straps s
  | .settime sec ns u => Sys2Proof.Machine.execSettime sec ns u s
  | .anchor sec uRef => Sys2Proof.Machine.execAnchor sec uRef s
  | .date => Sys2Proof.Machine.execDate s
  | .peek => Sys2Proof.Machine.execPeek s
  | .take => Sys2Proof.Machine.execTake s
  | .label line value => Sys2Proof.Machine.execLabel line value s
  | .stage a => Sys2Proof.Machine.execStage a s
  | .arm n => Sys2Proof.Machine.execArm n s
  | .stop n => Sys2Proof.Machine.execStop n s
  | .entry n => Sys2Proof.Machine.execEntry n s
  | .status => Sys2Proof.Machine.execStatus s
  | .peer n => Sys2Proof.Machine.execPeer n s
  | .warnings => Sys2Proof.Machine.execWarnings s
  | .attention enables => Sys2Proof.Machine.execAttention enables s
  | .overrun => Sys2Proof.Machine.execOverrun s
  | .unknownRequest code => Sys2Proof.Machine.execUnknownRequest code s
  | .bitTime sym => Sys2Proof.Machine.execBitTime sym s
  | .fullResponsePlaced => Sys2Proof.Machine.execFullResponsePlaced s

end Sys2Proof.Machine
end

