-- ==== Sys2Proof/Machine/Pins.lean ====
section
/-! DEFINITION. The pins: what the part puts on its output pins (R182), read from its state, and what it takes in at SVC_MOSI
(R167, R170). The levels of RESET_N and SVC_CS_N come from
outside and are operands here; how RESET_N held low is modelled is in log entry 36, and chip select is in log entry 38. -/

namespace Sys2Proof.Machine

/-- R182: what the part does to an output pin: drive it low, drive it high, or leave it released (high impedance). -/
inductive PinLevel where
  | low
  | high
  | released
deriving DecidableEq, Repr

/-- A driven logic level. -/
def PinLevel.ofBit (b : Bool) : PinLevel := if b then .high else .low

/-- R182: ATTN_N, open drain: low while the attention line is asserted (R176), never driven high, and released while RESET_N is
low. -/
def attnPin (resetLow : Bool) (s : State) : PinLevel := if !resetLow && attentionLine s then .low else .released

/-- R182: MARK0 to MARK3, active high, low while RESET_N is low. -/
def markPin (resetLow : Bool) (l : MarkLineNo) (s : State) : PinLevel := .ofBit (!resetLow && s.msch.lines[l].high)

/-- R178, R182: SPAN_A and SPAN_B: the halves driven in this bit time, or none with the driver released, as it is while RESET_N is
low. -/
def spanPins (resetLow : Bool) (s : State) : Option BitHalves := if resetLow then none else drivenPair s

/-- R167, R182: SVC_MISO at the bit `k` of a transaction, counted from 0, in which chip select went low in the state `s`: driven
only while SVC_CS_N is low, most significant bit of each byte first (log entry 38). R170 has a full reset end the transaction, and
no rule says what the pin shows from then until SVC_CS_N goes high; it shows on what it would without the reset (DESIGN CHOICE,
log entry 38). -/
def misoPin (selectLow : Bool) (k : Nat) (s : State) : PinLevel :=
  if selectLow then .ofBit ((bitsOfBytes (shiftedOut s (k / 8 + 1))).getD k false) else .released

/-- R167, R170: the whole bytes that the bits at SVC_MOSI make, one bit for each clock of SVC_SCK in the transaction, most
significant first. A final partial byte, of fewer than eight clocks, is ignored. -/
def shiftedIn (mosi : List Bool) : List Byte := bytesOfBits (mosi.length / 8) mosi

/-- R168, R170: what a transaction with these bits at SVC_MOSI brings when it ends. Chip select released ends it in what its whole
bytes say; a full reset applied during it ends it with the bytes discarded, and it brings nothing. -/
def transactionEnded (straps : Straps) (cutByReset : Bool) (mosi : List Bool) : Option Transaction :=
  if cutByReset then none else some (decodeTransaction straps (shiftedIn mosi))

end Sys2Proof.Machine
end

