-- ==== Sys2Proof/Safety.lean ====
section
/-! DEFINITION. What the statements speak of: the invariants that every command keeps, block by block, and a few of the manual's
own notions, written from its rules and not from the meanings that implement them. -/

namespace Sys2Proof.Machine

/-! ## Invariants -/

/-- R41: the ranges of the five attributes of a profile. -/
def AttrsInRange (a : ProfileAttrs) : Prop :=
  a.pathDelay ≤ 100000 ∧ a.pathUnc ≤ 100000 ∧ 1 ≤ a.aging ∧ a.aging ≤ 100 ∧ 100 ≤ a.driftLimit ∧ a.driftLimit ≤ 100000
    ∧ a.accept ≤ 3

/-- R41, R122, R162: the ranges of the start settings. -/
def SettingsInRange (img : Image) : Prop :=
  1 ≤ img.ownTol ∧ img.ownTol ≤ 100 ∧ 1000 ≤ img.stepThreshold ∧ img.stepThreshold ≤ 1000000000 ∧ 10 ≤ img.slewLimit
    ∧ img.slewLimit ≤ 500 ∧ 1 ≤ img.settleMs ∧ img.settleMs ≤ 10000 ∧ 4 ≤ img.reviewS ∧ img.reviewS ≤ 64
    ∧ AttrsInRange img.dflt
    ∧ (∀ w : Fin 4, img.windows[w].first ≤ 31 ∧ img.windows[w].last ≤ 31 ∧ AttrsInRange img.windows[w].attrs)
    ∧ ∀ l : CapLineNo, img.lines[l].guardNs ≤ 1000000

/-- R6, R8, R162: the clock fields and the terms stay in their ranges, and so do the start settings. In CONFIG the phase term is 0 with its slot empty, and
nothing on its way can change that (R8 note, R17). -/
def ClockBounds (s : State) : Prop :=
  s.eclk.secs ≤ Config.maxSeconds
    ∧ s.eclk.ns < Config.nsPerSecond
    ∧ s.eclk.sub < Config.unitsPerNs
    ∧ s.eclk.trim.natAbs ≤ Config.trimLimit
    ∧ (∀ v ∈ s.eclk.trimSlot, v.natAbs ≤ Config.trimLimit)
    ∧ s.eclk.phase.natAbs ≤ s.svc.image.slewLimit * 671088640 / 1000000
    ∧ (∀ v ∈ s.eclk.phaseSlot, v.natAbs ≤ s.svc.image.slewLimit * 671088640 / 1000000)
    ∧ SettingsInRange s.svc.image
    ∧ (s.agu.sync = .config →
        s.eclk.phase = 0 ∧ s.eclk.phaseSlot = none ∧ s.agu.roundTimer = none
          ∧ (s.eclk.hold = true ∨ ∀ src v, Posting.phase v ∉ s.net.postings src))

/-- R19, R24, R25, R26, R28: the transmitter sends nothing in CONFIG or LISTEN, MUTED goes with its flag, and a beacon being
deferred or sent has a scheduled launch. -/
def SpanStanding (s : State) : Prop :=
  (s.span.mutedFlag = true ↔ s.span.tx = .muted)
    ∧ s.span.attempts ≤ 2
    ∧ s.span.idleRun ≤ 65535
    ∧ (s.span.tx = .deferring ∨ s.span.tx = .sending → s.span.sched.isSome)
    ∧ (s.agu.sync = .config ∨ s.agu.sync = .listen →
        s.agu.roundTimer = none ∧ s.net.roundStart = [] ∧ (s.span.tx = .quiet ∨ s.span.tx = .muted))

/-- R39, R43 to R49, R61, R71: what a peer record of each link state holds. -/
def PeerRecordStanding (r : PeerRecord) : Prop :=
  match r.link with
  | .absent =>
    r.lastSeq = 0 ∧ r.lastSched = 0 ∧ r.accusesMe = false ∧ r.inBeat = 0 ∧ r.dissent = 0 ∧ r.interval = none ∧ r.obs = none
      ∧ r.barExpiry = none ∧ r.silenceExpiry = none
  | .listening =>
    r.inBeat ≤ 1 ∧ r.dissent = 0 ∧ r.interval.isSome ∧ r.obs.isSome ∧ r.barExpiry = none ∧ r.silenceExpiry.isSome
  | .admitted =>
    r.inBeat = 2 ∧ r.dissent ≤ 2 ∧ r.interval.isSome ∧ r.obs.isSome ∧ r.barExpiry = none ∧ r.silenceExpiry.isSome
  | .barred =>
    r.inBeat = 0 ∧ r.dissent = 0 ∧ r.interval.isSome ∧ r.obs.isSome ∧ r.barExpiry.isSome ∧ r.silenceExpiry = none
  | .silent =>
    r.inBeat = 0 ∧ r.dissent = 0 ∧ r.interval.isSome ∧ r.obs.isSome ∧ r.barExpiry = none ∧ r.silenceExpiry.isSome

/-- R39: every record is as its link state has it, and the record at the own number stays ABSENT. -/
def PeerTableStanding (s : State) : Prop :=
  (∀ p : Station, PeerRecordStanding s.ptab[p])
    ∧ s.ptab[s.svc.station].link = .absent
    ∧ ∀ h ∈ s.net.handOffs, h.station ≠ s.svc.station

/-- R125, R127, R129, R131, R136: the capture queue holds at most 64 entries in order of capture tick, its counts are in range,
every guard links to an entry that is there, and in CONFIG it is empty. -/
def CaptureStanding (s : State) : Prop :=
  s.capu.queue.length ≤ 64
    ∧ s.capu.queue.Pairwise (fun e f => e.tick ≤ f.tick)
    ∧ (∀ e ∈ s.capu.queue,
        e.tick ≤ s.osc.tick ∧ e.unc ≤ Config.unbounded ∧ e.followers ≤ 255 ∧ e.rebased ≤ 15 ∧ e.sync ≠ .config)
    ∧ (∀ l : CapLineNo, ∀ g ∈ s.capu.lines[l].guard, ∀ i ∈ g.link, i < s.capu.queue.length)
    ∧ (s.agu.sync = .config → s.capu.queue = [])

/-- R102, R103: the warning list is in order of raise time, with one warning per kind and station; only PEER_DRIFTING names a
peer, none names the own number as one, and only the two drift kinds have a value. -/
def WarningsStanding (s : State) : Prop :=
  s.dmon.warnings.Pairwise (fun v w => v.time ≤ w.time)
    ∧ s.dmon.warnings.Pairwise (fun v w => v.kind ≠ w.kind ∨ v.subject ≠ w.subject)
    ∧ ∀ w ∈ s.dmon.warnings,
        (w.kind = .peerDrifting ↔ w.subject ≠ .own)
          ∧ w.subject ≠ .peer s.svc.station
          ∧ (w.kind ≠ .peerDrifting → w.kind ≠ .selfDrifting → w.value = 0)

/-- R143, R144: the ranges of the fields of a live or staging copy. -/
def ProgramInRange (p : Program) : Prop :=
  1000 ≤ p.period ∧ p.period ≤ 1000000000000 ∧ p.count ≤ 65535 ∧ 1 ≤ p.reload ∧ p.reload ≤ 65535 ∧ 1 ≤ p.width
    ∧ p.width ≤ 25000

/-- R143, R145, R152: the ranges of an entry; an ARMED entry has a fire left, and a staging that waits gives at least one. -/
def EntryInRange (e : SchedEntry) : Prop :=
  ProgramInRange e.live ∧ ProgramInRange e.staging ∧ e.skipped ≤ 65535 ∧ e.suppressed ≤ 65535
    ∧ (e.armed = true → 1 ≤ e.live.count) ∧ (e.staged = true → 1 ≤ e.staging.count)

/-- R143, R150, R160: the schedule table in its ranges, a high mark line has a release tick, and in CONFIG nothing is armed or
staged. -/
def ScheduleStanding (s : State) : Prop :=
  (∀ n : EntryNo, EntryInRange s.msch.entries[n])
    ∧ (∀ l : MarkLineNo, s.msch.lines[l].high = true → s.msch.lines[l].release.isSome)
    ∧ (s.agu.sync = .config → ∀ n : EntryNo, s.msch.entries[n].armed = false ∧ s.msch.entries[n].staged = false)

/-- R62 to R66, R69, R82, R84, R86, R92: what AGU's timers, base and run are in each sync state, and DMON's review timer with
them: LISTEN has its end set, LONE, AGREED and HOLDOVER have the round timer set, and every state but CONFIG a next review. -/
def AgreementStanding (s : State) : Prop :=
  s.agu.base ≤ 4294967295
    ∧ s.agu.run ≤ 65535
    ∧ (s.agu.sync = .listen ↔ s.agu.endListen.isSome)
    ∧ (s.agu.sync = .lone ∨ s.agu.sync = .agreed ∨ s.agu.sync = .holdover ↔ s.agu.roundTimer.isSome)
    ∧ (s.agu.sync ≠ .config ↔ s.dmon.reviewTimer.isSome)
    ∧ (s.agu.sync = .agreed → s.agu.unset = false ∧ s.agu.run = 0)
    ∧ (s.agu.sync = .config ∨ s.agu.sync = .listen →
        s.agu.humble = false ∧ s.agu.run = 0 ∧ s.agu.record = AgreementRecord.empty)
    ∧ (s.agu.stepped = true → s.agu.stepTick.isSome)

/-- R109 to R116, R120: a window is open only in ARMED or QUALIFIED, a QUALIFIED anchor holds α, s, a window and a last good tick,
the two counts belong to their states, and in CONFIG the anchor is UNARMED. -/
def AnchorStanding (s : State) : Prop :=
  (s.anch.window.isSome → s.anch.state = .armed ∨ s.anch.state = .qualified)
    ∧ (s.anch.state = .qualified →
        s.anch.alpha.isSome ∧ s.anch.s.isSome ∧ s.anch.window.isSome ∧ s.anch.lastGood.isSome)
    ∧ (s.anch.state = .armed → s.anch.s.isSome)
    ∧ (s.anch.state = .unarmed → s.anch.s = none ∧ s.anch.alpha = none ∧ s.anch.lastGood = none)
    ∧ s.anch.good ≤ 2 ∧ (s.anch.good ≠ 0 → s.anch.state = .armed ∧ s.anch.window.isSome)
    ∧ s.anch.miss ≤ 1 ∧ (s.anch.miss ≠ 0 → s.anch.state = .qualified)
    ∧ s.anch.uRef ≤ 1000000
    ∧ (∀ sec ∈ s.anch.s, sec ≤ 281474976710655)
    ∧ (s.agu.sync = .config → s.anch.state = .unarmed)

/-- R87 to R90, R95, R96, R99, R105: every drift record keeps its limits, a fresh rate is there, and a drift warning stands in the
list exactly while its verdict is DRIFTING or EASING. -/
def DriftStanding (s : State) : Prop :=
  (∀ p : Station,
      s.dmon.drift[p].window.length ≤ 7
        ∧ (∀ v ∈ s.dmon.drift[p].rate, v.natAbs ≤ 10000000)
        ∧ (s.dmon.drift[p].fresh = true → s.dmon.drift[p].rate.isSome)
        ∧ s.dmon.drift[p].d.natAbs ≤ 20000000
        ∧ (s.dmon.drift[p].verdict = .drifting ∨ s.dmon.drift[p].verdict = .easing ↔
            ∃ w ∈ s.dmon.warnings, w.kind = .peerDrifting ∧ w.subject = .peer p))
    ∧ s.dmon.ownD.natAbs ≤ 10000000
    ∧ (s.dmon.ownVerdict = .drifting ∨ s.dmon.ownVerdict = .easing ↔
        ∃ w ∈ s.dmon.warnings, w.kind = .selfDrifting ∧ w.subject = .own)
    ∧ (s.dmon.review.outcome = .conclusive ↔ s.dmon.review.ref.isSome)

/-- R21, R23, R55, R88: the arrival ticks that bear on peer `p`, from the oldest sample in its window, through the samples and
frames on their way and the receptions not yet checked, to the present tick. -/
def arrivalTicks (s : State) (p : Station) : List Tick :=
  s.dmon.drift[p].window.map Prod.fst
    ++ s.net.toDmon.filterMap (fun
      | .sample q tick _ => if q = p then some tick else none
      | .leave _ => none
      | .window _ => none)
    ++ s.net.handOffs.map HandOff.tick
    ++ s.span.ended.filterMap (fun r => r.readings.map Readings.tick)
    ++ (s.span.readings.map Readings.tick).toList
    ++ [s.osc.tick]

/-- R23, R55, R88: arrivals are taken in the order in which they came, so the samples of a window stand in order of tick. -/
def ArrivalsInOrder (s : State) : Prop := ∀ p : Station, (arrivalTicks s p).Pairwise (· ≤ ·)

/-- R167 to R170, R180: a request is in progress exactly while the buffer shows NOT_READY, with that request's code; its full
response is then made and waits, never NOT_READY itself and opening with the 8 bytes of its tick. -/
def PortStanding (s : State) : Prop :=
  (s.svc.request.isSome ↔ s.svc.buffer.status = .notReady)
    ∧ (s.svc.request.isSome ↔ s.svc.response.isSome)
    ∧ (∀ code ∈ s.svc.request, s.svc.buffer.code = code ∧ s.svc.buffer.body = [])
    ∧ ∀ r ∈ s.svc.response, r.status ≠ .notReady ∧ 8 ≤ r.body.length

/-! ## The manual's notions -/

/-- R168, steps 1 to 3: `s` with a request taken: NOT_READY in the buffer, and the full response, opening with the tick counter
(R180), waiting to be placed. -/
def answered (code : Byte) (status : Status) (body : List Byte) (s : State) : State :=
  { s with
    svc :=
      { s.svc with
        request := some code
        buffer := { status := .notReady, code := code, overrun := false, body := [] }
        response := some { status := status, body := beBytes 8 s.osc.tick ++ body } } }

/-- R109, R121: `t`, a tick later, has the capture lines' and the reference input's samples of a tick, taken after those `s` holds.
That the first sample of the reference input gives no pulse (log entry 9), and that a pulse found on the tick of a step has the
stepped clock as its stamp (log entry 39), are the model's. -/
def Sampled (caps : BitVec 8) (ref : Bool) (s t : State) : Prop :=
  t.capu.queue = s.capu.queue
    ∧ (∀ l : CapLineNo,
        t.capu.lines[l] =
          { s.capu.lines[l] with
            prev := some (caps.getLsbD l.val)
            found :=
              if s.capu.lines[l].prev = some (!caps.getLsbD l.val) then some (if caps.getLsbD l.val then .rising else .falling)
              else none })
    ∧ t.anch =
      { s.anch with
        prevRef := some ref
        pulses := s.anch.pulses
          ++ if s.anch.prevRef = some false ∧ ref = true then
              [{ tick := t.osc.tick, stamp := t.eclk.secs * 1000000000 + t.eclk.ns }]
            else [] }

/-- R19, R178: what a bit time is to the receiver: a transition between the two driven levels at its middle is a bit value, the
contention level throughout is a symbol error, and neither is idle. -/
def Heard (h : BitHalves) : LineSymbol → Prop
  | .bit true => h.first = .positive ∧ h.second = .negative
  | .bit false => h.first = .negative ∧ h.second = .positive
  | .contention => h.first = .contention ∧ h.second = .contention
  | .idle =>
    ¬(h.first = .positive ∧ h.second = .negative) ∧ ¬(h.first = .negative ∧ h.second = .positive)
      ∧ ¬(h.first = .contention ∧ h.second = .contention)

/-- R44: the half-width H, in ns, of a stated interval at an acceptance code: 1/16, 1/8, 1/4 or 1/2 of it. -/
def halfWidthNs (p : Period) (code : Nat) : Int := (p.ns : Int) * 2 ^ code / 16

/-- R44: 40 times the difference D of a beacon against the beat of a record whose stated interval is `p`. -/
def beatOffsetNs (p : Period) (r : PeerRecord) (h : HandOff) : Int :=
  40 * (((h.tick : Int) - h.deferral / 40) - (r.lastSched + (h.seq.toNat - r.lastSeq.toNat : Int) % 256 * (p.ns / 40)))

/-- R46, R51 to R53, R57: the record after an accepted beacon, by the attributes of its profile. -/
def acceptedRecord (own : Station) (a : ProfileAttrs) (link : LinkState) (inBeat dissent : Nat) (h : HandOff) (r : PeerRecord) :
    PeerRecord :=
  let theta : Int := max (-(2 ^ 47 - 1)) (min (2 ^ 47 - 1) ((h.launch : Int) + a.pathDelay - h.stamp))
  { link := link
    profile := r.profile
    lastSeq := h.seq
    lastSched := (h.tick : Int) - h.deferral / 40
    interval := some h.period
    inBeat := inBeat
    dissent := dissent
    barExpiry := r.barExpiry
    silenceExpiry := some ((h.tick : Int) - h.deferral / 40 + 4 * (h.period.ns / 40) - (-(halfWidthNs h.period a.accept)) / 40)
    accusesMe := decide (own ∈ h.accusations)
    obs :=
      some
        { theta := theta
          eps0 := min 4294967295 (h.statedUnc + a.pathUnc + 80)
          thetaP := max (-(2 ^ 63 - 1)) (min (2 ^ 63 - 1) (theta + h.phaseTotal))
          arrivalTick := h.tick
          statedUnc := h.statedUnc
          flags := h.flags } }

/-- R47: an ADMITTED record of stated interval `p`, barred at this tick. -/
def barredRecord (tick : Tick) (p : Period) (r : PeerRecord) : PeerRecord :=
  { r with link := .barred, inBeat := 0, dissent := 0, silenceExpiry := none, barExpiry := some (tick + 16 * (p.ns / 40)) }

/-- R74: how many of the intervals hold this value. -/
def overlap (is : List Interval) (x : Int) : Nat := is.countP fun i => decide (i.lo ≤ x ∧ x ≤ i.hi)

/-- R77, R97: the quotient of two whole numbers rounded half away from zero. -/
def rounded (num : Int) (den : Nat) : Int := num.sign * ((2 * num.natAbs + den) / (2 * den) : Nat)

/-- R77: the phase value that slews C over one round, clamped to the slew-limit units. -/
def slewPosting (s : State) (c : Int) : Int :=
  let units : Int := (s.svc.image.slewLimit * 671088640 / 1000000 : Nat)
  max (-units) (min units (rounded (c * 671088640) s.svc.image.period.ns))

/-- R75: is a close AGREED, at this F, with `n` intervals of which `c` overlap? -/
def Agrees (f n c : Nat) : Prop := 2 * f + 1 ≤ n ∧ n - f ≤ c

/-- R161: F, from the strap code in use. -/
def strappedF (s : State) : Nat := if s.svc.ftCode = 0 then 1 else s.svc.ftCode.toNat

/-- R3, R112: the half-width in ticks of an anchor window that opens now. -/
def windowTicks (s : State) : Nat := ((if s.anch.onBackup then 1000 else s.svc.image.ownTol) * 1000 + 50000 + 39) / 40

/-- R121, R122: is the edge `e` on the line `l` of interest on this tick? -/
def OfInterest (s : State) (l : CapLineNo) (e : Edge) : Prop :=
  s.capu.lines[l].found = some e ∧ s.svc.image.lines[l].enabled = true
    ∧ (s.svc.image.lines[l].edge = .both ∨ s.svc.image.lines[l].edge = .rising ∧ e = .rising
      ∨ s.svc.image.lines[l].edge = .falling ∧ e = .falling)

/-- R128, R134: the clock as CAPU reads it, any step whose notice it has not taken left out. -/
def clockAtCapu (s : State) : Nat := (((s.eclk.secs * 1000000000 + s.eclk.ns : Nat) : Int) - (s.net.stepCapu.map StepNotice.c).sum).toNat

/-- R148: the clock as MSCH reads it, any step whose notice it has not taken left out. -/
def clockAtMsch (s : State) : Nat := (((s.eclk.secs * 1000000000 + s.eclk.ns : Nat) : Int) - (s.net.stepMsch.map StepNotice.c).sum).toNat

/-- R127, R128: the entry that a capture on this line stores now. -/
def entryStored (s : State) (l : CapLineNo) (e : Edge) : CapEntry where
  line := l
  edge := e
  tick := s.osc.tick
  ts := clockAtCapu s
  unc := min 4294967295 (ownU s + 40)
  sync := s.agu.sync
  unset := s.agu.unset
  humble := s.agu.humble
  muted := s.span.mutedFlag
  anchored := decide (s.anch.state = .qualified)
  osc := s.osc.selection
  label := s.capu.lines[l].latch
  followers := 0
  state := .pending
  rebased := 0

/-- R122, R125: the guard that a capture on this line opens now, linked to the entry at this place of the queue; none where the
guard time is 0. -/
def guardOpened (s : State) (l : CapLineNo) (place : Nat) : Option LineGuard :=
  if s.svc.image.lines[l].guardNs = 0 then none
  else some { closing := s.osc.tick + (s.svc.image.lines[l].guardNs + 39) / 40, link := some place }

/-- R145, R151: the live copy made of a staging copy: its count, or 1 if the mode is SINGLE. -/
def taken (p : Program) : Program := { p with count := if p.mode = .single then 1 else p.count }

/-- R145: an entry armed from its staging at the fire time `t`. -/
def armedAt (t : Nat) (e : SchedEntry) : SchedEntry :=
  { e with
    armed := true
    fire := t
    live := taken e.staging
    skipped := 0
    suppressed := 0
    late := false
    chainRefused := false
    staged := false }

/-- R163, step 2, R180: does the item name a window or a line outside its table? -/
def ItemOutside (i : CfgItem) : Prop :=
  (0x10 ≤ i.selector.toNat ∧ i.selector.toNat ≤ 0x16 ∧ 4 < i.index.toNat)
    ∨ (0x20 ≤ i.selector.toNat ∧ i.selector.toNat ≤ 0x22 ∧ 7 < i.index.toNat)

/-- R163, step 3, R180: does the item name no setting the part has? -/
def ItemUnknown (i : CfgItem) : Prop :=
  ¬((1 ≤ i.selector.toNat ∧ i.selector.toNat ≤ 6) ∨ (0x10 ≤ i.selector.toNat ∧ i.selector.toNat ≤ 0x16)
      ∨ (0x20 ≤ i.selector.toNat ∧ i.selector.toNat ≤ 0x22))
    ∨ ((i.selector = 0x10 ∨ i.selector = 0x11) ∧ i.index = 4)

/-- R98: of two warnings that one review raises, does `v` go in before `w`: the lower peer first, the own station last? -/
def RaisedEarlier (v w : Warning) : Prop :=
  match v.subject, w.subject with
  | .peer p, .peer q => p < q
  | .peer _, .own => True
  | .own, _ => False

/-- R100, steps 1 and 2: is `p` a DRIFTING peer to be accused? -/
def accusedAsDrifting (s : State) (p : Station) : Prop := s.dmon.drift[p].verdict = .drifting ∧ s.ptab[p].link ≠ .absent

/-- R100: is `p` to be accused, room or not? -/
def toBeAccused (s : State) (p : Station) : Prop :=
  p ≠ s.svc.station ∧ (accusedAsDrifting s p ∨ s.ptab[p].link = .barred)

/-- R100: does `p` stand before `q` in an accusation list? -/
def accusedBefore (s : State) (p q : Station) : Prop :=
  (accusedAsDrifting s p ∧ ¬accusedAsDrifting s q)
    ∨ (accusedAsDrifting s p ∧ accusedAsDrifting s q
        ∧ ((s.dmon.drift[q].d).natAbs < (s.dmon.drift[p].d).natAbs
            ∨ ((s.dmon.drift[q].d).natAbs = (s.dmon.drift[p].d).natAbs ∧ p < q)))
    ∨ (¬accusedAsDrifting s p ∧ ¬accusedAsDrifting s q ∧ p < q)

/-- R103: `t` is `s` after DMON has taken this raise. -/
def Raised (w : Warning) (s t : State) : Prop :=
  ((∃ x ∈ s.dmon.warnings, x.kind = w.kind ∧ x.subject = w.subject) → t = s)
    ∧ ((∀ x ∈ s.dmon.warnings, x.kind ≠ w.kind ∨ x.subject ≠ w.subject) →
        ∃ a b, s.dmon.warnings = a ++ b ∧ (∀ x ∈ a, x.time ≤ w.time) ∧ (∀ x ∈ b, w.time < x.time)
          ∧ t =
            { s with
              dmon := { s.dmon with warnings := a ++ w :: b }
              svc := { s.svc with warningsChanged := true } })

/-- R104: `t` is `s` after DMON has taken a removal of this kind for the own station. -/
def RemovedOwn (k : WarningKind) (s t : State) : Prop :=
  ((∀ x ∈ s.dmon.warnings, x.kind ≠ k ∨ x.subject ≠ .own) → t = s)
    ∧ ∀ a w b, s.dmon.warnings = a ++ w :: b → w.kind = k → w.subject = .own →
        t =
          { s with
            dmon := { s.dmon with warnings := a ++ b }
            svc := { s.svc with warningsChanged := true } }

/-- R149: is this guard met now? -/
def guardHolds (s : State) : Guard → Prop
  | .none => True
  | .agreedOnly => s.agu.sync = .agreed
  | .bound b => ownU s ≤ b ∧ ownU s ≠ 4294967295

/-- R149: the suppressed count after a fire of `e` made now. -/
def SuppressedAfter (s : State) (e : SchedEntry) (n : Nat) : Prop :=
  (guardHolds s e.live.guard → n = e.suppressed) ∧ (¬guardHolds s e.live.guard → n = min 65535 (e.suppressed + 1))

/-- R149, R150: are `lines'` the mark lines `lines` after a fire of an entry whose live copy is `p`, made now? -/
def MarkedBy (s : State) (p : Program) (lines lines' : Vector MarkLine 4) : Prop :=
  ∀ l : MarkLineNo,
    (p.output = some l → guardHolds s p.guard →
        lines'[l] = { release := some (max (lines[l].release.getD 0) (s.osc.tick + p.width)), high := true })
      ∧ (¬(p.output = some l ∧ guardHolds s p.guard) → lines'[l] = lines[l])

/-- R155: `j` is the least whole number of periods that puts `fire` above the clock. -/
def LeastSkip (clock fire period j : Nat) : Prop := clock < fire + j * period ∧ ∀ i < j, fire + i * period ≤ clock

/-- R149, R151, R152, R155, R156: `e'` is the entry `e` after one fire made now, `late` if it is a catch-up fire. The staging, if
one waits, is taken up; the next fire time is the staging's, or else one period on; the count then has fires left, reloads or
completes; and a next fire time the clock has reached is carried past it by whole periods. -/
def EntryFired (s : State) (late : Bool) (e e' : SchedEntry) : Prop :=
  ∃ (p : Program) (next sup j : Nat),
    (e.staged = false → p = e.live ∧ next = e.fire + e.live.period)
      ∧ (e.staged = true → p = taken e.staging ∧ next = e.stagingFire.getD (e.fire + e.staging.period))
      ∧ SuppressedAfter s e sup
      ∧ LeastSkip (clockAtMsch s) next p.period j
      ∧ (let fired : SchedEntry := { e with suppressed := sup, late := e.late || late, staged := false }
        let skipped := min 65535 (e.skipped + j)
        (1 < p.count →
            e' =
              { fired with
                live := { p with count := p.count - 1 }, fire := next + j * p.period, skipped := skipped })
          ∧ (p.count ≤ 1 → p.mode = .cyclic →
            e' =
              { fired with
                live := { p with count := p.reload }
                fire := next + j * p.period
                skipped := skipped
                completion := e.completion || p.report })
          ∧ (p.count ≤ 1 → p.mode ≠ .cyclic →
            e' = { fired with live := { p with count := 0 }, fire := next, armed := false, completion := true }))

/-- R149 to R152: `m'` is the schedule after the entry `n` has fired once, its chain not yet tried: the mark is driven or withheld
by the live copy as it stood before the staging was taken up. -/
def FiredOnce (s : State) (late : Bool) (n : EntryNo) (m m' : Msch) : Prop :=
  ∃ e' lines', EntryFired s late m.entries[n] e' ∧ MarkedBy s m.entries[n].live m.lines lines'
    ∧ m' = { entries := m.entries.set n e', lines := lines' }

/-- R145, R153: the entry can be armed, at the fire time `t`. -/
def Armable (e : SchedEntry) (t : Nat) : Prop := e.armed = false ∧ e.staged = true ∧ e.stagingFire = some t

/-- R148 to R156: `m'` is the schedule after the entry `n` has fired, with the chain it sets off: none, refused, an arm, or an arm
whose fire time the clock has reached, which fires in its turn. -/
inductive Fired (s : State) : Bool → EntryNo → Msch → Msch → Prop
  /-- The entry stays ARMED, or has completed without a chain. -/
  | alone {late n m m'} : FiredOnce s late n m m' → (m'.entries[n].armed = true ∨ m'.entries[n].live.chain = none) →
    Fired s late n m m'
  /-- The entry has completed, and its chain's target cannot be armed. -/
  | refused {late n m m'} {target : EntryNo} : FiredOnce s late n m m' → m'.entries[n].armed = false →
    m'.entries[n].live.chain = some target → (∀ t, ¬Armable m'.entries[target] t) →
    Fired s late n m { m' with entries := m'.entries.set n { m'.entries[n] with chainRefused := true } }
  /-- The entry has completed and arms its chain's target, which the clock has not reached. -/
  | chained {late n m m'} {target : EntryNo} {t : Nat} : FiredOnce s late n m m' → m'.entries[n].armed = false →
    m'.entries[n].live.chain = some target → Armable m'.entries[target] t → clockAtMsch s < t →
    Fired s late n m { m' with entries := m'.entries.set target (armedAt t m'.entries[target]) }
  /-- The entry has completed and arms its chain's target, which catches up at once. -/
  | cascaded {late n m m' m''} {target : EntryNo} {t : Nat} : FiredOnce s late n m m' → m'.entries[n].armed = false →
    m'.entries[n].live.chain = some target → Armable m'.entries[target] t → t ≤ clockAtMsch s →
    Fired s true target { m' with entries := m'.entries.set target (armedAt t m'.entries[target]) } m'' →
    Fired s late n m m''

/-- R148: is the entry ARMED with a fire time the clock has reached? -/
def Due (s : State) (e : SchedEntry) : Prop := e.armed = true ∧ e.fire ≤ clockAtMsch s

/-- R157: `m'` is the schedule after the entries of the list, one after another, have caught up with the stepped clock, each if it
is due when its turn comes. -/
def CaughtUp (s : State) : List EntryNo → Msch → Msch → Prop
  | [], m, m' => m' = m
  | n :: ns, m, m' =>
    ∃ m1, (Due s m.entries[n] → Fired s true n m m1) ∧ (¬Due s m.entries[n] → m1 = m) ∧ CaughtUp s ns m1 m'

/-! ## The items of a response (R181) -/

/-- The bytes of a number, most significant first (R167). -/
def bigEndian (n v : Nat) : List Byte := (List.range n).map fun i => BitVec.ofNat 8 (v / 256 ^ (n - 1 - i))

/-- R181: the kinds of item. -/
inductive Item where
  /-- A count, number or code in `bytes` bytes, all ones for none. -/
  | number (bytes : Nat) (v : Option Nat)
  | flag (b : Bool)
  | tick (t : Option Int)
  | time (ns : Option Nat)
  | signedNs (x : Option Int)
  | signedTime (x : Option Int)
  | uncertainty (u : Option Nat)
  | term (x : Option Int)
  | stations (ps : List Station)
deriving DecidableEq, Repr

/-- R181: the coding of each kind of item. The zeros behind the sign byte of an absent signed time, the all-ones of an absent
uncertainty and the low 64 bits of a tick before 0 are the model's choices (log entries 14 and 27). -/
def Item.bytes : Item → List Byte
  | .number n v => bigEndian n (v.getD (256 ^ n - 1))
  | .flag b => [if b then 1 else 0]
  | .tick t => bigEndian 8 ((t.getD (-1)) % 2 ^ 64).toNat
  | .time none => List.replicate 10 0xFF
  | .time (some ns) => bigEndian 6 (ns / 1000000000) ++ bigEndian 4 (ns % 1000000000)
  | .signedNs x => bigEndian 8 ((x.getD (-(2 ^ 63))) % 2 ^ 64).toNat
  | .signedTime none => 0xFF :: List.replicate 10 0
  | .signedTime (some x) =>
    (if x < 0 then 1 else 0) :: (bigEndian 6 (x.natAbs / 1000000000) ++ bigEndian 4 (x.natAbs % 1000000000))
  | .uncertainty u => bigEndian 4 (u.getD 4294967295)
  | .term x => bigEndian 4 ((x.getD (-(2 ^ 31))) % 2 ^ 32).toNat
  | .stations ps => BitVec.ofNat 8 ps.length :: ps.map fun p => BitVec.ofNat 8 p.val

/-- The bytes of a list of items. -/
def itemBytes (items : List Item) : List Byte := items.flatMap Item.bytes

/-- R181: the place of a value in the list of its table, counted from 0. -/
def Item.coded {α : Type} [DecidableEq α] (table : List α) (x : α) : Item := .number 1 (some (table.idxOf x))

/-- R181: the sync states in order. -/
def syncItem (x : SyncState) : Item := .coded [.config, .listen, .lone, .agreed, .holdover] x

/-- R181: a station flags byte. -/
def stationFlagsItem (unset humble muted anchored : Bool) : Item :=
  .number 1
    (some
      ((if unset then 8 else 0) + (if humble then 4 else 0) + (if muted then 2 else 0) + if anchored then 1 else 0))

/-- R175, R180: three enables or conditions in one byte. -/
def threeBitsItem (capture warnings schedule : Bool) : Item :=
  .number 1 (some ((if capture then 1 else 0) + (if warnings then 2 else 0) + if schedule then 4 else 0))

/-- R162: the scalar settings in selector order. -/
def scalarItems (img : Image) : List Item :=
  [ .coded [.ms125, .ms250, .ms500, .ms1000, .ms2000] img.period, .number 1 (some img.ownTol)
  , .number 4 (some img.stepThreshold), .number 2 (some img.slewLimit), .number 2 (some img.settleMs)
  , .number 1 (some img.reviewS)]

/-- R41: the attributes of a profile in selector order. -/
def attrItems (a : ProfileAttrs) : List Item :=
  [ .number 3 (some a.pathDelay), .number 4 (some a.pathUnc), .number 1 (some a.aging), .number 3 (some a.driftLimit)
  , .number 1 (some a.accept)]

/-- R122: a capture line setup in selector order. -/
def setupItems (l : LineSetup) : List Item :=
  [.flag l.enabled, .coded [.rising, .falling, .both] l.edge, .number 3 (some l.guardNs)]

/-- R163, R181: the image that CONFIGURE answers. -/
def imageItems (img : Image) : List Item :=
  scalarItems img
    ++ ((List.finRange 4).flatMap fun w =>
      [.number 1 (some img.windows[w].first), .number 1 (some img.windows[w].last)] ++ attrItems img.windows[w].attrs)
    ++ attrItems img.dflt
    ++ (List.finRange 8).flatMap fun l => setupItems img.lines[l]

/-- R84: the agreement record, its outcome and application coded in the order of R84's rows with NONE last, and an emptied record's
application as NONE (log entry 27). -/
def recordItems (r : AgreementRecord) : List Item :=
  [ .coded [.agreed, .split, .sparse, .none] r.outcome, .time (r.close.map Prod.fst)
  , .tick (r.close.map fun k => (k.2 : Int)), .number 1 r.n, .number 1 r.c, .signedTime (r.region.map Prod.fst)
  , .signedTime (r.region.map Prod.snd), .signedTime r.corr, .uncertainty r.h
  , .coded [.slew, .step, .anchorFollow, .none] r.application
  , .term (match r.posted with | some (.phase v) => some v | _ => none)
  , .signedTime (match r.posted with | some (.step c) => some c | _ => none)
  , .stations r.participants, .stations r.dissenters, .uncertainty r.newBase, .flag r.baseSet]

/-- R141: a capture line in STATUS; an unarmed latch's value is sent as 0 (log entry 27). -/
def capLineItems (setup : LineSetup) (x : CapLine) : List Item :=
  setupItems setup
    ++ [ .flag x.latch.isSome, .number 2 (some ((x.latch.map BitVec.toNat).getD 0)), .flag x.guard.isSome
       , .tick (x.guard.map fun g => (g.closing : Int)), .flag (decide (∃ g ∈ x.guard, g.link.isSome))]

/-- R15, R38, R85, R99, R107, R119, R141, R159, R172: the items of STATUS, part by part. A mark line's level as a flag is the
model's (log entry 27). -/
def statusItems (s : State) : List Item :=
  [ .number 1 (some s.svc.station.val), .number 1 (some (strappedF s)), .number 1 (some s.svc.ftCode.toNat)]
    ++ scalarItems s.svc.image
    ++ [ threeBitsItem s.svc.maskCapture s.svc.maskWarnings s.svc.maskSchedule
       , threeBitsItem s.svc.capCond s.svc.warningsChanged s.svc.schedCond, .flag s.svc.warningsChanged
       , .coded [.primary, .backup] s.osc.selection, .time (some (s.eclk.secs * 1000000000 + s.eclk.ns))
       , .term (some s.eclk.trim), .term (some s.eclk.phase), .signedNs (some (s.eclk.phaseTotal.tdiv (2 ^ 24)))
       , .coded [.quiet, .waiting, .deferring, .sending, .muted] s.span.tx, .flag s.span.mutedFlag
       , .number 1 (some s.span.seq.toNat)]
    ++ recordItems s.agu.record
    ++ [ syncItem s.agu.sync, .flag s.agu.unset, .flag s.agu.humble, .flag s.agu.stepped
       , .uncertainty (some s.agu.base), .tick (some (s.agu.baseTick : Int)), .uncertainty (some (ownU s))
       , .number 2 (some s.agu.run), .tick (s.agu.roundTimer.map fun t => (t : Int))
       , .coded [.steady, .suspect, .drifting, .easing] s.dmon.ownVerdict, .term (some s.dmon.ownD)
       , .tick (s.dmon.review.tick.map fun t => (t : Int))
       , .coded [.conclusive, .inconclusive, .none] s.dmon.review.outcome
       , .number 1 s.dmon.review.k, .term s.dmon.review.ref, .term s.dmon.review.ownD, .term s.dmon.review.trim
       , .tick (s.dmon.reviewTimer.map fun t => (t : Int)), .stations (accusationList s)
       , .coded [.unarmed, .armed, .qualified, .lost] s.anch.state, .number 7 s.anch.s
       , .uncertainty (some s.anch.uRef), .signedTime s.anch.alpha, .number 1 (some s.anch.good)
       , .number 1 (some s.anch.miss), .tick (s.anch.window.map fun w => (w.expected : Int))
       , .number 2 (s.anch.window.map AnchorWindow.half), .tick (s.anch.lastGood.map fun t => (t : Int))
       , .number 1 (some s.capu.queue.length)
       , .number 1 (some (s.capu.queue.countP fun e => e.state = .pending))
       , .number 1 (some (s.capu.queue.countP fun e => e.state = .settled))
       , .number 1 (some (s.capu.queue.countP fun e => e.state = .overdue))
       , .number 2 (some s.svc.image.settleMs)]
    ++ ((List.finRange 8).flatMap fun l => capLineItems s.svc.image.lines[l] s.capu.lines[l])
    ++ ((List.finRange 16).flatMap fun n =>
      [ .flag s.msch.entries[n].armed, .flag s.msch.entries[n].staged, .flag s.msch.entries[n].completion
      , .flag s.msch.entries[n].late, .flag s.msch.entries[n].chainRefused])
    ++ (List.finRange 4).flatMap fun l =>
      [.flag s.msch.lines[l].high, .tick (s.msch.lines[l].release.map fun t => (t : Int))]

/-- R60: an observation, or that there is none: then its numbers as absent and its flags clear (log entry 27). -/
def observationItems (o : Option Observation) : List Item :=
  let has (f : BeaconFlags → Bool) : Item := .flag ((o.map fun x => f x.flags).getD false)
  [ .flag o.isSome, .signedNs (o.map Observation.theta), .uncertainty (o.map Observation.eps0)
  , .signedNs (o.map Observation.thetaP), .tick (o.map fun x => (x.arrivalTick : Int))
  , .uncertainty (o.map Observation.statedUnc), has BeaconFlags.anchored, has BeaconFlags.lone, has BeaconFlags.holdover
  , has BeaconFlags.humble, has BeaconFlags.unset, has BeaconFlags.stepped]

/-- R60, R107, R173: the items of PEER. -/
def peerItems (s : State) (p : Station) : List Item :=
  let r := s.ptab[p]
  let d := s.dmon.drift[p]
  [ .coded [.absent, .listening, .admitted, .barred, .silent] r.link
  , .number 1 (r.profile.map fun
      | .window w => w.val
      | .dflt => 4)
  , .number 1 (some r.lastSeq.toNat), .tick (some r.lastSched)
  , .number 2 (r.interval.map fun i => i.ns / 1000000), .number 1 (some r.inBeat), .number 1 (some r.dissent)
  , .tick (r.barExpiry.map fun t => (t : Int)), .tick r.silenceExpiry, .flag r.accusesMe]
    ++ observationItems r.obs
    ++ [ .number 1 (some d.window.length), .term d.rate, .flag d.fresh
       , .coded [.steady, .suspect, .drifting, .easing] d.verdict, .term (some d.d)
       , .flag (decide (p ∈ accusationList s))]

/-- R143: the fields of a copy from its period to its report flag. -/
def programItems (p : Program) : List Item :=
  [ .number 5 (some p.period), .number 2 (some p.count), .number 2 (some p.reload)
  , .number 1 (p.output.map Fin.val), .number 2 (some p.width)
  , .number 1
      (some
        (match p.guard with
        | .none => 0
        | .agreedOnly => 1
        | .bound _ => 2))
  , .uncertainty (match p.guard with | .bound b => some b | _ => none), .number 1 (p.chain.map Fin.val), .flag p.report]

/-- R143, R147: the items of ENTRY: the live copy, the staging copy and the staged flag. -/
def entryItems (e : SchedEntry) : List Item :=
  [.flag e.armed, .coded [.single, .finite, .cyclic] e.live.mode, .time (some e.fire)]
    ++ programItems e.live
    ++ [ .number 2 (some e.skipped), .number 2 (some e.suppressed), .flag e.completion, .flag e.late, .flag e.chainRefused
       , .coded [.single, .finite, .cyclic] e.staging.mode, .time e.stagingFire]
    ++ programItems e.staging
    ++ [.flag e.staged]

/-- R127, R181: a capture entry. -/
def captureItems (e : CapEntry) : List Item :=
  [ .number 1 (some e.line.val), .coded [.rising, .falling] e.edge, .tick (some (e.tick : Int)), .signedTime (some e.ts)
  , .uncertainty (some e.unc), syncItem e.sync, stationFlagsItem e.unset e.humble e.muted e.anchored
  , .coded [.primary, .backup] e.osc, .flag e.label.isSome, .number 2 (some ((e.label.map BitVec.toNat).getD 0))
  , .number 1 (some e.followers), .coded [.pending, .settled, .overdue] e.state, .number 1 (some e.rebased)]

/-- R102, R181: a warning. The kinds are coded from 1 in the order listed. -/
def warningItems (w : Warning) : List Item :=
  [ .number 1
      (some
        (1 + List.idxOf w.kind
          [.peerDrifting, .selfDrifting, .selfAccused, .noAgreement, .anchorLost, .overflow, .duplicateNumber, .oscFallback]))
  , .number 1 (match w.subject with | .own => none | .peer p => some p.val), .time (some w.time), .term (some w.value)]

/-- R139, R181: the items of DATE. -/
def dateItems (s : State) : List Item :=
  [ .time (some (s.eclk.secs * 1000000000 + s.eclk.ns)), .uncertainty (some (ownU s)), syncItem s.agu.sync
  , stationFlagsItem s.agu.unset s.agu.humble s.span.mutedFlag (decide (s.anch.state = .qualified))
  , .coded [.primary, .backup] s.osc.selection]

/-! ## A frame (R22, R178) -/

/-- R178: bytes 2 to 24 + N of a beacon that says `f`, with this flags byte, whose bits 1 and 0 may be anything. -/
def frameBody (f : Frame) (flags : Byte) : List Byte :=
  [BitVec.ofNat 8 f.station.val, f.seq, flags, BitVec.ofNat 8 (List.idxOf f.period [.ms125, .ms250, .ms500, .ms1000, .ms2000])]
    ++ bigEndian 4 f.deferral ++ bigEndian 6 (f.launch / 1000000000) ++ bigEndian 4 (f.launch % 1000000000)
    ++ bigEndian 4 f.statedUnc ++ [BitVec.ofNat 8 f.accusations.length]
    ++ f.accusations.map fun p => BitVec.ofNat 8 p.val

/-- R22: the reception `r` is well-formed and says `f`. It ended on an idle bit time; its bits after the sync mark are whole bytes,
25 and one for each of at most 4 accusations; the last two are the check over the rest; and the rest has a station number and
accusations in 0 to 31, one of the five interval codes and a launch stamp whose ns field is below a second. -/
def Carries (r : Reception) (f : Frame) : Prop :=
  r.how = .idle
    ∧ f.accusations.length ≤ 4 ∧ f.deferral < 2 ^ 32 ∧ f.launch / 1000000000 < 2 ^ 48 ∧ f.statedUnc < 2 ^ 32
    ∧ ∃ flags : Byte,
      f.flags =
          { anchored := flags.getLsbD 7, lone := flags.getLsbD 6, holdover := flags.getLsbD 5, humble := flags.getLsbD 4
            unset := flags.getLsbD 3, stepped := flags.getLsbD 2 }
        ∧ r.bits = bitsOfBytes (frameBody f flags ++ bigEndian 2 (crc16 (frameBody f flags)).toNat)

/-! ## The response buffer (R167, R180) -/

/-- R180: the status words in the order of their codes. -/
def statusWords : List Status := [.ok, .empty, .notSettled, .busy, .wrongState, .badIndex, .notReady, .unknownRequest]

/-- R167, R180: the whole response buffer: header and body, or the one byte NOT_READY. -/
def bufferBytes (b : Buffer) : List Byte :=
  if b.status = .notReady then [0x06]
  else
    [BitVec.ofNat 8 (statusWords.idxOf b.status), b.code, if b.overrun then 1 else 0] ++ bigEndian 2 b.body.length ++ b.body

end Sys2Proof.Machine
end

