-- ==== Sys2Proof/Certificates/Slice0/Obligations.lean ====
section
/-! DEFINITION. The statements for the provers. Each says what a command or the machine does by the numbered rules its docstring
names; where a clause is the model's own reading, the docstring says so and names the log entry. -/

section

open Sys2Proof Sys2Proof.Machine

/-! ## The machine -/

/-- The command at the front of the queue runs on the rest of the queue; with none waiting the part idles. The idle step is the
model's own choice (log entry 2). -/
def Obligations.StepRunsTheFrontCommand : Prop :=
  (∀ (c : Instr) (rest : List Instr) (s : State), step { s with pending := c :: rest } = exec c { s with pending := rest })
    ∧ ∀ s : State, s.pending = [] → step s = .next s

/-- Every command answers a next state in every state, whatever its operands, and leaves the queue of commands alone: the manual
has no event that stops the part. -/
def Obligations.EveryCommandAnswersNext : Prop :=
  ∀ (c : Instr) (s : State), ∃ t, exec c s = .next t ∧ t.pending = s.pending

/-- R4, R7, R9, R12: nothing but TICK and FULL_RESET moves the tick counter, the clock, the trim term or the phase total. -/
def Obligations.OnlyTickAndResetMoveTime : Prop :=
  ∀ (c : Instr) (s t : State), exec c s = .next t → (∀ caps ref, c ≠ .tick caps ref) → (∀ straps, c ≠ .fullReset straps) →
    t.osc.tick = s.osc.tick ∧ t.eclk.secs = s.eclk.secs ∧ t.eclk.ns = s.eclk.ns ∧ t.eclk.sub = s.eclk.sub
      ∧ t.eclk.trim = s.eclk.trim ∧ t.eclk.phaseTotal = s.eclk.phaseTotal

/-- R2, R24, R36, R64, R67: what is latched leaves only as the manual says. Short of a full reset BACKUP stays, UNSET does not
come back and only a round close or SETTIME clears it, the uncertainty base changes at three events only, MUTED leaves at
RESTART only, and the beacon sequence advances at a completion only. -/
def Obligations.LatchedStandings : Prop :=
  ∀ (c : Instr) (s t : State), exec c s = .next t → (∀ straps, c ≠ .fullReset straps) →
    (s.osc.selection = .backup → t.osc.selection = .backup)
      ∧ (s.agu.unset = false → t.agu.unset = false)
      ∧ (t.agu.unset ≠ s.agu.unset → c = .roundClose ∨ ∃ sec ns u, c = .settime sec ns u)
      ∧ (t.agu.base ≠ s.agu.base ∨ t.agu.baseTick ≠ s.agu.baseTick →
          c = .roundClose ∨ c = .fallbackNoticeAtAgu ∨ ∃ sec ns u, c = .settime sec ns u)
      ∧ (s.span.tx = .muted → t.span.tx ≠ .muted → ∃ straps, c = .restart straps)
      ∧ (t.span.seq ≠ s.span.seq → c = .beaconCompletion ∧ t.span.seq = s.span.seq + 1)

/-! ## Invariants that every step keeps -/

/-- R6, R8, R41, R122, R162, R167 to R170: the clock fields, the trim and phase terms and the start settings stay in their ranges; and
at the service port a request stays in progress exactly while the buffer shows NOT_READY, with its response made. -/
def Obligations.ClockBoundsKept : Prop :=
  (∀ s t : State, ClockBounds s → step s = .next t → ClockBounds t)
    ∧ ∀ s t : State, PortStanding s → step s = .next t → PortStanding t

/-- R25, R26, R62 to R66, R69, R82, R84, R92: the transmitter stays out of the line in CONFIG, LISTEN and MUTED, whatever comes; and
AGU's timers, base, run and record stay as the sync state has them, with DMON's review timer. -/
def Obligations.SpanStandingKept : Prop :=
  (∀ s t : State, SpanStanding s → step s = .next t → SpanStanding t)
    ∧ ∀ s t : State, AgreementStanding s → step s = .next t → AgreementStanding t

/-- R39, R43 to R49, R61, R71, R109 to R116, R120: every peer record holds what its link state says it holds, and the record at the
own number stays ABSENT; and ANCH's window, s, α and counts stay as the anchor state has them, UNARMED in CONFIG. -/
def Obligations.PeerTableKept : Prop :=
  (∀ s t : State, PeerTableStanding s → step s = .next t → PeerTableStanding t)
    ∧ ∀ s t : State, AnchorStanding s → step s = .next t → AnchorStanding t

/-- R125, R127, R129, R131: the capture queue keeps its limit and its order of capture ticks, its counts stay in range and its
guard links stay good. The premise on the tick counter leaves out the tick after its largest count (log entry 1). -/
def Obligations.CaptureQueueKept : Prop :=
  ∀ s t : State, CaptureStanding s → s.osc.tick + 1 < 2 ^ 64 → step s = .next t → CaptureStanding t

/-- R23, R55, R87 to R90, R96, R99, R102, R103, R174: the warning list stays in order of raise time with at most one warning per kind
and station, and so never holds more than 38; a drift warning stands in it exactly while its verdict is DRIFTING or EASING, and
every drift record keeps its limits; and the samples of a window stand in order of arrival tick. The premise on the tick counter
leaves out the tick after its largest count (log entry 1). -/
def Obligations.WarningListKept : Prop :=
  (∀ s t : State, WarningsStanding s → step s = .next t → WarningsStanding t)
    ∧ (∀ s : State, WarningsStanding s → s.dmon.warnings.length ≤ 38)
    ∧ (∀ s t : State, DriftStanding s → step s = .next t → DriftStanding t)
    ∧ ∀ s t : State, ArrivalsInOrder s → s.osc.tick + 1 < 2 ^ 64 → step s = .next t → ArrivalsInOrder t

/-- R143, R145, R152, R160: the schedule table stays in its ranges; an ARMED entry always has a fire left. -/
def Obligations.ScheduleKept : Prop := ∀ s t : State, ScheduleStanding s → step s = .next t → ScheduleStanding t

/-- Every invariant holds right after a full reset, whatever the straps. -/
def Obligations.InvariantsHoldAtReset : Prop :=
  ∀ straps : Straps,
    ClockBounds (State.resetWith straps) ∧ SpanStanding (State.resetWith straps) ∧ PeerTableStanding (State.resetWith straps)
      ∧ CaptureStanding (State.resetWith straps) ∧ WarningsStanding (State.resetWith straps)
      ∧ ScheduleStanding (State.resetWith straps) ∧ PortStanding (State.resetWith straps)
      ∧ AgreementStanding (State.resetWith straps) ∧ AnchorStanding (State.resetWith straps)
      ∧ DriftStanding (State.resetWith straps) ∧ ArrivalsInOrder (State.resetWith straps)

/-! ## Bits: the service port and the beacon -/

/-- R168, R170, R180: the bytes written for a well-formed request bring that request, with every operand; RESTART brings the
straps as they stand. -/
def Obligations.RequestsRoundTrip : Prop :=
  ∀ (straps : Straps) (c : Instr) (bs : List Byte), WellFormed c = true → (∀ st, c = .restart st → st = straps) →
    encodeRequest c = some bs → decodeTransaction straps bs = .request c

/-- R167, R168, R170, R180: bytes beyond those a request needs are ignored, and a request with fewer argument bytes than it needs is an
UNKNOWN_REQUEST of its code, a CONFIGURE with fewer items than its count among them. A transaction that opens with no code of
the list is an UNKNOWN_REQUEST too, whatever follows; one that opens with the no-request code, or has no byte, is a read. A
transaction's bits at SVC_MOSI make its bytes, most significant first, and a final partial byte is ignored; one with no whole byte
is a read, and one that a full reset cuts off brings nothing. -/
def Obligations.ExtraAndMissingBytes : Prop :=
  (∀ (straps : Straps) (c : Instr) (code : Byte) (args : List Byte), WellFormed c = true →
    (∀ st, c = .restart st → st = straps) → encodeRequest c = some (code :: args) →
      (∀ extra, decodeTransaction straps (code :: args ++ extra) = .request c)
        ∧ ∀ n < args.length, decodeTransaction straps (code :: args.take n) = .request (.unknownRequest code))
  ∧ (∀ (straps : Straps) (mosi : List Bool),
    (∃ bytes : List Byte, transactionEnded straps false mosi = some (decodeTransaction straps bytes)
        ∧ bytes.length = mosi.length / 8
        ∧ ∀ (k : Nat) (byte : Byte), bytes[k / 8]? = some byte → mosi[k]? = some (byte.getLsbD (7 - k % 8)))
      ∧ (mosi.length < 8 → transactionEnded straps false mosi = some .read)
      ∧ transactionEnded straps true mosi = none)
  ∧ ∀ (straps : Straps) (args : List Byte),
    decodeTransaction straps [] = .read
      ∧ decodeTransaction straps (0x00 :: args) = .read
      ∧ (∀ code : Byte,
        code ∉ [(0x00 : Byte), 0x01, 0x02, 0x03, 0x04, 0x05, 0x10, 0x11, 0x12, 0x13, 0x20, 0x21, 0x22, 0x23, 0x30, 0x31, 0x32, 0x33] →
          decodeTransaction straps (code :: args) = .request (.unknownRequest code))
      ∧ (∀ (code : Byte) (need : Nat),
        (code, need) ∈ [((0x04 : Byte), 14), (0x05, 10), (0x13, 3), (0x20, 37), (0x21, 1), (0x22, 1), (0x23, 1), (0x31, 1), (0x33, 1)] →
          args.length < need → decodeTransaction straps (code :: args) = .request (.unknownRequest code))
      ∧ decodeTransaction straps [0x01] = .request (.unknownRequest 0x01)
      ∧ ∀ count : Byte, args.length < 6 * count.toNat →
        decodeTransaction straps (0x01 :: count :: args) = .request (.unknownRequest 0x01)

/-- R22, R178, R179: a beacon's bytes after its sync mark read back as what was sent, field by field. -/
def Obligations.BeaconRoundTrip : Prop :=
  ∀ (station : Station) (f : LaunchFields) (acc : List Station), f.accusations = some acc → acc.length ≤ 4 →
    f.deferral < 2 ^ 32 → f.stamp ≤ 281474976710655999999999 → f.statedUnc < 2 ^ 32 →
    parseFrame ((beaconBytes station f).drop 2) =
      some
        { station := station, seq := f.seq, flags := f.flags, period := f.code, deferral := f.deferral, launch := f.stamp
          statedUnc := f.statedUnc, accusations := acc }

/-- R179, R180: the check value the manual gives for the CRC, requests written out byte by byte from the codes and argument
layouts, and one bit by bit with a partial byte after it. -/
def Obligations.WordsFromTheManual : Prop :=
  crc16 [0x31, 0x32, 0x33, 0x34, 0x35, 0x36, 0x37, 0x38, 0x39] = 0x29B1
    ∧ ∀ straps,
      decodeTransaction straps [0x04, 0, 0, 0, 1, 0x51, 0x80, 0x3B, 0x9A, 0xC9, 0xFF, 0, 0, 2, 8] =
          .request (.settime 86400 999999999 520)
        ∧ decodeTransaction straps [0x13, 3, 2, 0] = .request (.label 3 512)
        ∧ decodeTransaction straps [0x01, 1, 0x22, 0, 0, 0, 3, 0xE8] =
          .request (.configure [{ selector := 0x22, index := 0, value := 1000 }])
        ∧ decodeTransaction straps [0x01, 2, 0x22, 0, 0, 0, 3, 0xE8] = .request (.unknownRequest 0x01)
        ∧ decodeTransaction straps [0x03] = .request (.restart straps)
        ∧ decodeTransaction straps [0x33, 0x05] = .request (.attention 5)
        ∧ decodeTransaction straps [0x40] = .request (.unknownRequest 0x40)
        ∧ decodeTransaction straps [0x00, 0x10] = .read
        ∧ decodeTransaction straps [] = .read
        ∧ transactionEnded straps false
            [false, false, true, false, false, false, false, true, false, false, false, false, false, false, true, false, true, true] =
          some (.request (.arm 2))

/-! ## Ticks, postings and resets -/

/-- R4, R6, R7, R9, R10: a tick that carries the ns field to no multiple of 1,000,000 advances the tick counter by 1, the clock
by exactly I = 671,088,640 + trim + phase units and the phase total by the phase term; the inputs are sampled; nothing else
changes. That the first sample of the reference input after a full reset gives no pulse is the model's reading (log entry 9). -/
def Obligations.TickBetweenMarks : Prop :=
  ∀ (caps : BitVec 8) (ref : Bool) (s : State), ClockBounds s → s.osc.tick + 1 < 2 ^ 64 →
    let inc : Int := 671088640 + s.eclk.trim + s.eclk.phase
    let units : Int := (s.eclk.ns : Int) * 2 ^ 24 + s.eclk.sub + inc
    units / 2 ^ 24 / 1000000 = (s.eclk.ns : Int) / 1000000 →
      670685988 ≤ inc ∧ inc ≤ 671491292
        ∧ ∃ t, exec (.tick caps ref) s = .next t
          ∧ t =
            { s with
              osc := { s.osc with tick := s.osc.tick + 1 }
              eclk :=
                { s.eclk with
                  ns := (units / 2 ^ 24).toNat
                  sub := (units % 2 ^ 24).toNat
                  phaseTotal := s.eclk.phaseTotal + s.eclk.phase }
              capu := t.capu
              anch := t.anch }
          ∧ Sampled caps ref s t

/-- R7, R10, R12, R13, R14: a tick that carries the ns field to or past a multiple of 1,000,000 applies what the slots hold. The
boundary value b is the clock after the advance, which stops at the largest clock value. Without a pending step the clock
stands at b; with a pending step C it is set to b + C within the clock's range, the phase term and the phase slot are emptied,
and the applied correction goes to the five recipients. That every tick is an update boundary while the clock stands at its
largest value, that the first sample of the reference input gives no pulse, and that a pulse found on the tick of a step is
stamped with the stepped clock, are the model's (log entries 13, 9 and 39). -/
def Obligations.TickAtAMark : Prop :=
  ∀ (caps : BitVec 8) (ref : Bool) (s : State), ClockBounds s → s.osc.tick + 1 < 2 ^ 64 →
    let units : Int := (s.eclk.ns : Int) * 2 ^ 24 + s.eclk.sub + (671088640 + s.eclk.trim + s.eclk.phase)
    let b : Int := min 281474976710655999999999 ((s.eclk.secs : Int) * 1000000000 + units / 2 ^ 24)
    units / 2 ^ 24 / 1000000 ≠ (s.eclk.ns : Int) / 1000000 →
      ∃ t, exec (.tick caps ref) s = .next t
        ∧ t =
          { s with
            osc := { s.osc with tick := s.osc.tick + 1 }, eclk := t.eclk, capu := t.capu, anch := t.anch, net := t.net }
        ∧ Sampled caps ref s t
        ∧ t.eclk =
          { secs := t.eclk.secs, ns := t.eclk.ns, sub := (units % 2 ^ 24).toNat, trim := s.eclk.trimSlot.getD s.eclk.trim
            phase := t.eclk.phase, phaseTotal := s.eclk.phaseTotal + s.eclk.phase, phaseSlot := none, trimSlot := none
            stepSlot := none, hold := s.eclk.hold }
        ∧ t.eclk.ns < 1000000000
        ∧ (s.eclk.stepSlot = none →
            (t.eclk.secs : Int) * 1000000000 + t.eclk.ns = b ∧ t.eclk.phase = s.eclk.phaseSlot.getD s.eclk.phase
              ∧ t.net = s.net)
        ∧ ∀ c, s.eclk.stepSlot = some c →
            let applied : Int := max 0 (min 281474976710655999999999 (b + c)) - b
            (t.eclk.secs : Int) * 1000000000 + t.eclk.ns = b + applied ∧ t.eclk.phase = 0
              ∧ t.net =
                { s.net with
                  stepAgu := s.net.stepAgu ++ [applied]
                  stepDmon := s.net.stepDmon ++ [applied]
                  stepAnch := s.net.stepAnch ++ [applied]
                  stepCapu := s.net.stepCapu ++ [{ tick := s.osc.tick + 1, c := applied }]
                  stepMsch := s.net.stepMsch ++ [{ tick := s.osc.tick + 1, c := applied }] }

/-- R8, R11, R17: ECLK takes the oldest posting of a block. A phase value goes into the phase slot clamped to ± the slew-limit
units and a trim value into the trim slot clamped to ± 67,108, unless the posting hold is set, which discards them; a step goes
into the step slot as it is. A value pending in that slot is replaced, and nothing else changes. -/
def Obligations.PostingTaken : Prop :=
  ∀ (src : Poster) (p : Posting) (rest : List Posting) (s : State), s.net.postings src = p :: rest →
    let net' := s.net.setPostings src rest
    let units : Int := (s.svc.image.slewLimit * 671088640 / 1000000 : Nat)
    net'.postings src = rest ∧ (∀ other, other ≠ src → net'.postings other = s.net.postings other)
      ∧ (∀ v, p = .phase v → s.eclk.hold = false →
          exec (.posting src) s =
            .next { s with net := net', eclk := { s.eclk with phaseSlot := some (max (-units) (min units v)) } })
      ∧ (∀ v, p = .trim v → s.eclk.hold = false →
          exec (.posting src) s =
            .next { s with net := net', eclk := { s.eclk with trimSlot := some (max (-67108) (min 67108 v)) } })
      ∧ (∀ v, p = .phase v ∨ p = .trim v → s.eclk.hold = true → exec (.posting src) s = .next { s with net := net' })
      ∧ ∀ c, p = .step c →
          exec (.posting src) s = .next { s with net := net', eclk := { s.eclk with stepSlot := some c } }

/-- R2, R3, R64, R66, R67, R105: the loss of the primary selects BACKUP for good and sends the fallback notice to AGU, ANCH and DMON,
the last with the ensemble time then as its raise time. AGU's notice
makes U at that tick the base, so U does not jump, and takes up 1,000 ppm; ANCH takes up 1,000 ppm and keeps its open window. U at a tick t
is min(UNBOUNDED, base + ceil((t - base tick) × 40 × tolerance / 1,000,000)), and UNBOUNDED while UNSET is set; it never falls as
tick time passes. -/
def Obligations.FallbackAndUncertainty : Prop :=
  ∀ s : State,
    let tolerance := if s.agu.onBackup then 1000 else s.svc.image.ownTol
    (s.osc.selection = .primary →
        exec .primaryLost s =
          .next
            { s with
              osc := { s.osc with selection := .backup }
              net :=
              { s.net with
                fallbackAgu := true
                fallbackAnch := true
                fallbackDmon := s.net.fallbackDmon ++ [s.eclk.secs * 1000000000 + s.eclk.ns] } })
      ∧ (s.osc.selection = .backup → exec .primaryLost s = .next s)
      ∧ (s.net.fallbackAgu = true →
          ∃ t, exec .fallbackNoticeAtAgu s = .next t
            ∧ t =
              { s with
                net := { s.net with fallbackAgu := false }
                agu := { s.agu with base := ownU s, baseTick := s.osc.tick, onBackup := true } }
            ∧ ownU t = ownU s)
      ∧ (s.net.fallbackAnch = true →
          exec .fallbackNoticeAtAnch s =
            .next { s with net := { s.net with fallbackAnch := false }, anch := { s.anch with onBackup := true } })
      ∧ (s.agu.unset = true → ownU s = 4294967295)
      ∧ ownU s ≤ 4294967295
      ∧ (s.agu.unset = false → s.agu.baseTick ≤ s.osc.tick → ∀ u, u < 4294967295 →
          (ownU s ≤ u ↔
            s.agu.base ≤ u ∧ (s.osc.tick - s.agu.baseTick) * 40 * tolerance ≤ (u - s.agu.base) * 1000000))
      ∧ ∀ later ≥ s.osc.tick, ownU s ≤ ownU { s with osc := { s.osc with tick := later } }

/-- R16, R37, R41, R61, R86, R108, R120, R122, R142, R160, R161, R162, R177, R182: FULL_RESET puts every block at its full-reset
values and reads the straps. DMON still takes afterwards, on its cleared state, the step, fallback and duplicate notices on their
way to it and AGU's raises and removals (R108). The model's readings: that nothing else on its way survives (log entry 6), that
the receiver first waits for an idle bit time (15), that no input has been sampled (9), that what R20, R21 and R28 only imply of
SPAN starts empty (35), and that one command stands for the whole time RESET_N is low (36); the queue of commands and the count
of free values are the model's own and stay. -/
def Obligations.FullResetValues : Prop :=
  ∀ (straps : Straps) (s : State),
    ∃ t, exec (.fullReset straps) s = .next t
      ∧ t.osc = { selection := .primary, tick := 0 }
      ∧ t.eclk =
        { secs := 0, ns := 0, sub := 0, trim := 0, phase := 0, phaseTotal := 0, phaseSlot := none, trimSlot := none
          stepSlot := none, hold := false }
      ∧ t.span =
        { tx := .quiet, mutedFlag := false, attempts := 0, sched := none, nextLaunch := none, seq := 0, frame := none, sent := 0
          mismatched := false, rx := .waitIdle, rxBits := [], syncDue := false, readings := none, ended := [], idleRun := 0 }
      ∧ (∀ p : Station,
          t.ptab[p] =
            { link := .absent, profile := none, lastSeq := 0, lastSched := 0, interval := none, inBeat := 0, dissent := 0
              barExpiry := none, silenceExpiry := none, accusesMe := false, obs := none })
      ∧ t.agu =
        { sync := .config, unset := true, humble := false, stepped := false, stepTick := none, base := 4294967295, baseTick := 0
          onBackup := false, endListen := none, roundTimer := none, run := 0, record := t.agu.record }
      ∧ t.agu.record =
        { outcome := .none, close := none, n := none, c := none, region := none, corr := none, h := none, application := .none
          posted := none, participants := [], dissenters := [], newBase := none, baseSet := false }
      ∧ (∀ p : Station, t.dmon.drift[p] = { window := [], rate := none, fresh := false, verdict := .steady, d := 0 })
      ∧ t.dmon =
        { drift := t.dmon.drift, ownVerdict := .steady, ownD := 0, stepTick := none, reviewTimer := none
          review := { outcome := .none, tick := none, k := none, ref := none, ownD := none, trim := none }, warnings := [] }
      ∧ t.anch =
        { state := .unarmed, s := none, uRef := 0, alpha := none, good := 0, miss := 0, window := none, lastGood := none
          onBackup := false, prevRef := none, pulses := [] }
      ∧ t.capu.queue = []
      ∧ (∀ l : CapLineNo, t.capu.lines[l] = { prev := none, found := none, guard := none, latch := none })
      ∧ (let program : Program :=
          { mode := .single, period := 1000, count := 0, reload := 1, output := none, width := 1, guard := .none, chain := none
            report := false }
        ∀ n : EntryNo,
          t.msch.entries[n] =
            { armed := false, fire := 0, live := program, skipped := 0, suppressed := 0, completion := false, late := false
              chainRefused := false, stagingFire := none, staging := program, staged := false })
      ∧ (∀ l : MarkLineNo, t.msch.lines[l] = { release := none, high := false })
      ∧ t.svc =
        { station := straps.stn.toFin, ftCode := straps.ft, image := t.svc.image, request := none, response := none
          buffer := { status := .ok, code := 0x00, overrun := false, body := [] }, maskCapture := true, maskWarnings := true
          maskSchedule := true, warningsChanged := false, capCond := false, schedCond := false }
      ∧ t.svc.image =
        { period := .ms500, ownTol := 5, stepThreshold := 50000, slewLimit := 200, settleMs := 2000, reviewS := 16
          windows := t.svc.image.windows
          dflt := { pathDelay := 0, pathUnc := 100, aging := 5, driftLimit := 2000, accept := 1 }, lines := t.svc.image.lines }
      ∧ (∀ w : Fin 4, t.svc.image.windows[w] = { first := 31, last := 0, attrs := t.svc.image.dflt })
      ∧ (∀ l : CapLineNo, t.svc.image.lines[l] = { enabled := false, edge := .rising, guardNs := 0 })
      ∧ t.net =
        { postAgu := [], postDmon := [], postSvc := [], fallbackAgu := false, fallbackAnch := false
          fallbackDmon := s.net.fallbackDmon, duplicates := s.net.duplicates, roundStart := [], completion := [], handOffs := []
          toDmon := [], dissent := [], rebase := [], stepAgu := [], stepDmon := s.net.stepDmon, stepAnch := [], stepCapu := []
          stepMsch := [], warn := t.net.warn }
      ∧ t.net.warn = s.net.warn.filter (fun w => w.kind = .selfAccused ∨ w.kind = .noAgreement)
      ∧ t.pending = s.pending ∧ t.freeDraws = s.freeDraws

/-- R17, R37, R61, R86, R108, R120, R142, R160, R165, R174, R177: RESTART puts every block at its restart values, reads the straps
again, keeps the start settings, the clock, the trim term, the phase total, UNSET and the base, and answers OK with the station
number and F. A posting of a round close or review that is on its way is never applied (R17). What happens to the other notices
on their way, what the fallback and the inputs' last levels leave, and where the receiver stands are the model's readings (log
entries 7, 9, 10 and 15); so is "warnings changed", left as it stands by R174 and R177 against R176 (log entry 12). -/
def Obligations.RestartValues : Prop :=
  ∀ (straps : Straps) (s : State), s.svc.request = none →
    ∃ t, exec (.restart straps) s = .next (answered 0x03 .ok [BitVec.ofNat 8 straps.stn.toNat,
          if straps.ft = 0 then 1 else BitVec.ofNat 8 straps.ft.toNat] t)
      ∧ t =
        { s with
          eclk := { s.eclk with phase := 0, phaseSlot := none, trimSlot := none, stepSlot := none, hold := true }
          span :=
            { tx := .quiet, mutedFlag := false, attempts := 0, sched := none, nextLaunch := none, seq := s.span.seq, frame := none
              sent := 0, mismatched := false, rx := if s.span.idleRun = 0 then .waitIdle else .ready, rxBits := []
              syncDue := false, readings := none, ended := [], idleRun := s.span.idleRun }
          ptab := t.ptab
          agu :=
            { sync := .config, unset := s.agu.unset, humble := false, stepped := false, stepTick := none, base := s.agu.base
              baseTick := s.agu.baseTick, onBackup := s.agu.onBackup, endListen := none, roundTimer := none, run := 0
              record :=
                { outcome := .none, close := none, n := none, c := none, region := none, corr := none, h := none
                  application := .none, posted := none, participants := [], dissenters := [], newBase := none
                  baseSet := false } }
          dmon :=
            { drift := t.dmon.drift, ownVerdict := .steady, ownD := 0, stepTick := none, reviewTimer := none
              review := { outcome := .none, tick := none, k := none, ref := none, ownD := none, trim := none }
              warnings := s.dmon.warnings.filter fun w => w.kind = .oscFallback }
          anch :=
            { state := .unarmed, s := none, uRef := 0, alpha := none, good := 0, miss := 0, window := none, lastGood := none
              onBackup := s.anch.onBackup, prevRef := s.anch.prevRef, pulses := [] }
          capu := { lines := t.capu.lines, queue := [] }
          msch := t.msch
          svc :=
            { s.svc with
              station := straps.stn.toFin
              ftCode := straps.ft
              maskCapture := true
              maskWarnings := true
              maskSchedule := true
              warningsChanged := t.svc.warningsChanged
              capCond := false
              schedCond := false }
          net :=
            { s.net with
              postAgu := [], postDmon := [], roundStart := [], handOffs := [], toDmon := [], dissent := [], warn := [] } }
      ∧ (t.svc.warningsChanged = true ↔
          s.svc.warningsChanged = true ∨ (∃ w ∈ s.dmon.warnings, w.kind ≠ .oscFallback)
            ∨ ∃ (k : NoticeKind) (time : Nat), WarnNotice.raise k time ∈ s.net.warn)
      ∧ (∀ p : Station,
          t.ptab[p] =
              { link := .absent, profile := none, lastSeq := 0, lastSched := 0, interval := none, inBeat := 0, dissent := 0
                barExpiry := none, silenceExpiry := none, accusesMe := false, obs := none }
            ∧ t.dmon.drift[p] = { window := [], rate := none, fresh := false, verdict := .steady, d := 0 })
      ∧ (let program : Program :=
          { mode := .single, period := 1000, count := 0, reload := 1, output := none, width := 1, guard := .none, chain := none
            report := false }
        ∀ n : EntryNo,
          t.msch.entries[n] =
            { armed := false, fire := 0, live := program, skipped := 0, suppressed := 0, completion := false, late := false
              chainRefused := false, stagingFire := none, staging := program, staged := false })
      ∧ (∀ l : MarkLineNo, t.msch.lines[l] = { release := none, high := false })
      ∧ ∀ l : CapLineNo, t.capu.lines[l] = { s.capu.lines[l] with guard := none, latch := none }

/-! ## The span line -/

/-- R19, R20, R28, R178, R182: one bit time, by what the receiver sees in its two halves. The idle run counts or returns to 0. A bit
value of 1 is driven positive and then negative, a 0 the other way round, and with no bit to drive, or RESET_N low, the driver
is released. The driven bit either matches or marks the frame's first mismatch. The receiver hunts, compares with the sync mark,
enters RECEIVING after its 16th bit, gathers bits and ends the reception on an idle bit time, on a symbol error or at the 233rd
bit after the sync mark. Nothing else changes. The model's readings: that an idle bit time inside a sync mark makes the receiver
ready (log entry 15), that a missing transition is a mismatch and that an accusation list not given when its count is driven is
empty (16), and how halves of other kinds are classed (37). -/
def Obligations.BitTimeHeard : Prop :=
  ∀ (halves : BitHalves) (sym : LineSymbol) (s : State), Heard halves sym →
    let driving := s.span.tx = .sending ∧ s.span.mismatched = false
    ∃ t, exec (.bitTime halves) s = .next t
      ∧ t = { s with span := t.span }
      ∧ t.span.tx = s.span.tx ∧ t.span.mutedFlag = s.span.mutedFlag ∧ t.span.attempts = s.span.attempts
      ∧ t.span.sched = s.span.sched ∧ t.span.nextLaunch = s.span.nextLaunch ∧ t.span.seq = s.span.seq
      ∧ t.span.idleRun = (if sym = .idle then min 65535 (s.span.idleRun + 1) else 0)
      ∧ (∀ bits, (s.span.frame = none ∧ bits = bitsOfBytes [0xE1, 0x5A]
              ∨ ∃ f acc, s.span.frame = some f ∧ f.accusations.getD [] = acc
                ∧ bits = bitsOfBytes (beaconBytes s.svc.station { f with accusations := some acc })) →
          driving →
            (∀ b, bits[s.span.sent]? = some b →
              spanPins false s
                  = some
                    { first := if b then .positive else .negative, second := if b then .negative else .positive }
                ∧ (sym = .bit b → t.span.sent = s.span.sent + 1 ∧ t.span.mismatched = false)
                ∧ (sym ≠ .bit b → t.span.sent = s.span.sent ∧ t.span.mismatched = true))
              ∧ (bits.length ≤ s.span.sent →
                spanPins false s = none ∧ t.span.sent = s.span.sent ∧ t.span.mismatched = false))
      ∧ (¬driving → spanPins false s = none ∧ t.span.sent = s.span.sent ∧ t.span.mismatched = s.span.mismatched)
      ∧ spanPins true s = none
      ∧ (s.span.tx ≠ .sending ∨ s.span.sent < 192 ∨ s.span.frame = none
            ∨ (∃ f acc, s.span.frame = some f ∧ f.accusations = some acc) →
          t.span.frame = s.span.frame)
      ∧ (∀ f, s.span.tx = .sending → 192 ≤ s.span.sent → s.span.frame = some f → f.accusations = none →
          t.span.frame = some { f with accusations := some [] })
      ∧ (s.span.rx = .waitIdle → t.span.rx = if sym = .idle then .ready else .waitIdle)
      ∧ (∀ n, (s.span.rx = .ready ∧ n = 0) ∨ s.span.rx = .matching n →
          (sym = .idle → t.span.rx = .ready)
            ∧ (sym = .contention → t.span.rx = .waitIdle)
            ∧ ∀ b, sym = .bit b →
              ((bitsOfBytes [0xE1, 0x5A])[n]? ≠ some b → t.span.rx = .waitIdle)
                ∧ ((bitsOfBytes [0xE1, 0x5A])[n]? = some b → n < 15 → t.span.rx = .matching (n + 1))
                ∧ ((bitsOfBytes [0xE1, 0x5A])[n]? = some b → n = 15 →
                  t.span.rx = .receiving ∧ t.span.rxBits = [] ∧ t.span.syncDue = true ∧ t.span.readings = none))
      ∧ (s.span.rx ≠ .receiving → t.span.ended = s.span.ended)
      ∧ (s.span.rx ≠ .receiving → t.span.rx ≠ .receiving →
          t.span.rxBits = s.span.rxBits ∧ t.span.syncDue = s.span.syncDue ∧ t.span.readings = s.span.readings)
      ∧ (s.span.rx = .receiving → ∀ b, sym = .bit b → s.span.rxBits.length < 232 →
          t.span.rx = .receiving ∧ t.span.rxBits = s.span.rxBits ++ [b] ∧ t.span.ended = s.span.ended
            ∧ t.span.readings = s.span.readings ∧ t.span.syncDue = s.span.syncDue)
      ∧ (s.span.rx = .receiving → (∀ b, sym = .bit b → 232 ≤ s.span.rxBits.length) →
          t.span.rx = (if sym = .idle then .ready else .waitIdle)
            ∧ t.span.ended = s.span.ended
              ++ [{ bits := s.span.rxBits
                    how := if sym = .idle then .idle else if sym = .contention then .symbolError else .overlength
                    readings := s.span.readings }]
            ∧ t.span.rxBits = [] ∧ t.span.syncDue = false ∧ t.span.readings = none)

/-- R21, R31 to R34: at the end of a sync mark the receiver takes the three readings; at the end of the own sync mark they are the
launch readings, and the fields of the beacon are fixed but for DMON's list, which is asked for here. -/
def Obligations.EndOfSyncMarkReadings : Prop :=
  ∀ s : State, s.span.syncDue = true →
    let stamp := s.eclk.secs * 1000000000 + s.eclk.ns
    let readings (own : Bool) : Readings :=
      { stamp := stamp, tick := s.osc.tick, phaseTotal := s.eclk.phaseTotal.tdiv (2 ^ 24), own := own }
    (s.span.tx ≠ .sending ∨ s.span.mismatched = true →
        exec .endOfSyncMark s =
          .next { s with span := { s.span with syncDue := false, readings := some (readings false) } })
      ∧ ∀ launch, s.span.tx = .sending → s.span.mismatched = false → s.span.sched = some launch →
        exec .endOfSyncMark s =
          .next
            { s with
              span :=
                { s.span with
                  syncDue := false
                  readings := some (readings true)
                  frame :=
                    some
                      { stamp := stamp
                        tick := s.osc.tick
                        deferral := (s.osc.tick - launch) * 40
                        seq := s.span.seq
                        code := s.svc.image.period
                        statedUnc := ownU s
                        flags :=
                          { anchored := decide (s.anch.state = .qualified), lone := decide (s.agu.sync = .lone)
                            holdover := decide (s.agu.sync = .holdover), humble := s.agu.humble, unset := s.agu.unset
                            stepped := s.agu.stepped }
                        accusations := none } } }

/-- R22, R23, R24, R105, R178, R179: the frame checks of a reception that has ended, which is well-formed just when it meets every
condition of R22. Not well-formed: no trace. Another station's number: handed on to
PTAB outside CONFIG. The own number with the own driver sending: loopback, not handed on. The own number with the driver idle: a
duplicate, which mutes every transmit state but SENDING and MUTED and sends DMON a notice with the ensemble time then. -/
def Obligations.ReceptionClassed : Prop :=
  (∀ (r : Reception) (f : Frame), frameOf r = some f ↔ Carries r f)
  ∧ ∀ (r : Reception) (rest : List Reception) (s : State), s.span.ended = r :: rest →
    let dropped := { s with span := { s.span with ended := rest } }
    ((r.how ≠ .idle ∨ r.bits.length % 8 ≠ 0) → exec .receptionEnd s = .next dropped)
      ∧ ((∀ f, ¬Carries r f) → exec .receptionEnd s = .next dropped)
      ∧ ∀ f rd, Carries r f → r.readings = some rd →
        (f.station ≠ s.svc.station → rd.own = false → s.agu.sync = .config → exec .receptionEnd s = .next dropped)
          ∧ (f.station ≠ s.svc.station → rd.own = false → s.agu.sync ≠ .config →
            exec .receptionEnd s =
              .next
                { dropped with
                  net :=
                    { s.net with
                      handOffs := s.net.handOffs
                        ++ [{ station := f.station, seq := f.seq, flags := f.flags, statedUnc := f.statedUnc, period := f.period
                              deferral := f.deferral, launch := f.launch, accusations := f.accusations, stamp := rd.stamp
                              tick := rd.tick, phaseTotal := rd.phaseTotal }] } })
          ∧ (f.station = s.svc.station → rd.own = true → exec .receptionEnd s = .next dropped)
          ∧ (f.station = s.svc.station → rd.own = false → s.span.tx = .muted → exec .receptionEnd s = .next dropped)
          ∧ (f.station = s.svc.station → rd.own = false → s.span.tx ≠ .muted → s.span.tx ≠ .sending →
            exec .receptionEnd s =
              .next
                { dropped with
                  span :=
                    { s.span with
                      ended := rest, tx := .muted, mutedFlag := true, attempts := 0, sched := none, nextLaunch := none }
                  net :=
                    { s.net with duplicates := s.net.duplicates ++ [s.eclk.secs * 1000000000 + s.eclk.ns] } })

/-- R26, R27, R29, R30: a round-start notice sets the launch of the round by where SPAN stands, at the round-start tick plus
ceil(station number × round period / 32 / 40) ticks. WAITING becomes DEFERRING at the scheduled launch; DEFERRING starts to send
once the idle run is 32 + (station number + 1) × 32 × attempt count and the deferral limit, one eighth of the round period, is not
passed; past the limit the beacon is skipped, and the next launch becomes the scheduled launch. That a command brought
before its occasion changes nothing and one brought late still acts is the model's choice (log entries 3 and 4), and so is that
TRANSMISSION_START is taken on any tick as one that begins a bit time (40). -/
def Obligations.LaunchScheduledAndPermitted : Prop :=
  (∀ (r : RoundStart) (rest : List RoundStart) (s : State), s.net.roundStart = r :: rest →
    ∃ launch, launch * 1280 < r.tick * 1280 + s.svc.station.val * s.svc.image.period.ns + 1280
      ∧ r.tick * 1280 + s.svc.station.val * s.svc.image.period.ns ≤ launch * 1280
      ∧ exec .roundStartNotice s =
        .next
          { s with
            net := { s.net with roundStart := rest }
            span :=
              match s.span.tx with
              | .quiet => if r.first then { s.span with tx := .waiting, sched := some launch, attempts := 0 } else s.span
              | .waiting => { s.span with sched := some launch, attempts := 0 }
              | .deferring => { s.span with nextLaunch := some launch }
              | .sending => { s.span with nextLaunch := some launch }
              | .muted => s.span })
  ∧ ∀ (launch : Tick) (s : State), s.span.sched = some launch →
    (s.span.tx = .waiting → launch ≤ s.osc.tick →
        exec .scheduledLaunch s = .next { s with span := { s.span with tx := .deferring } })
      ∧ (s.span.tx = .waiting → s.osc.tick < launch → exec .scheduledLaunch s = .next s)
      ∧ (s.span.tx = .deferring → s.osc.tick ≤ launch + s.svc.image.period.ns / 320 →
          (32 + (s.svc.station.val + 1) * 32 * s.span.attempts ≤ s.span.idleRun →
              exec .transmissionStart s =
                .next { s with span := { s.span with tx := .sending, frame := none, sent := 0, mismatched := false } })
            ∧ (s.span.idleRun < 32 + (s.svc.station.val + 1) * 32 * s.span.attempts → exec .transmissionStart s = .next s)
            ∧ exec .deferralLimit s = .next s)
      ∧ (s.span.tx = .deferring → launch + s.svc.image.period.ns / 320 < s.osc.tick →
          exec .transmissionStart s = .next s
            ∧ exec .deferralLimit s =
              .next
                { s with
                  span :=
                    { s.span with
                      tx := .waiting, attempts := 0, sched := s.span.nextLaunch, nextLaunch := none, frame := none, sent := 0
                      mismatched := false } })

/-- R26, R28, R30, R36: a mismatch ends the frame and adds 1 to the attempt count, back to DEFERRING, or, at 3, skips the beacon;
a frame wholly driven and matched completes: the sequence advances modulo 256 and AGU is sent the launch tick. A skip and a
completion return to WAITING with the next launch, and a skip sends no notice. That
BEACON_COMPLETION brought early changes nothing is the model's choice (log entry 3). -/
def Obligations.FrameAbandonedOrCompleted : Prop :=
  ∀ s : State, s.span.tx = .sending →
    let back : Span :=
      { s.span with
        tx := .waiting, attempts := 0, sched := s.span.nextLaunch, nextLaunch := none, frame := none, sent := 0
        mismatched := false }
    (s.span.mismatched = true → s.span.attempts < 2 →
        exec .mismatch s =
          .next
            { s with
              span :=
                { s.span with
                  tx := .deferring, attempts := s.span.attempts + 1, frame := none, sent := 0, mismatched := false } })
      ∧ (s.span.mismatched = true → s.span.attempts = 2 → exec .mismatch s = .next { s with span := back })
      ∧ ∀ f, s.span.mismatched = false → s.span.frame = some f →
        (s.span.sent = 8 * (27 + (f.accusations.getD []).length) →
            exec .beaconCompletion s =
              .next
                { s with
                  span := { back with seq := s.span.seq + 1 }
                  net := { s.net with completion := s.net.completion ++ [f.tick] } })
          ∧ (s.span.sent < 8 * (27 + (f.accusations.getD []).length) → exec .beaconCompletion s = .next s)

/-- R34, R65: a completion notice clears STEPPED unless a step notice was taken at or after the launch tick it carries; either
order of the two notices at AGU leaves STEPPED set when the step notice is taken after the launch. -/
def Obligations.CompletionNoticeTaken : Prop :=
  ∀ (launch : Tick) (rest : List Tick) (s : State), s.net.completion = launch :: rest →
    ((s.agu.stepTick = none ∨ ∃ t, s.agu.stepTick = some t ∧ t < launch) →
        exec .completionNotice s =
          .next { s with net := { s.net with completion := rest }, agu := { s.agu with stepped := false } })
      ∧ (∀ t, s.agu.stepTick = some t → launch ≤ t →
        exec .completionNotice s = .next { s with net := { s.net with completion := rest } })
      ∧ ∀ c cs, s.net.stepAgu = c :: cs → launch ≤ s.osc.tick →
        ∃ t u v w, exec .completionNotice s = .next t ∧ exec .stepNoticeAtAgu t = .next u
          ∧ exec .stepNoticeAtAgu s = .next v ∧ exec .completionNotice v = .next w ∧ u = w ∧ u.agu.stepped = true

/-- R35, R100: DMON gives SPAN the accusation list of a launch point: at most 4 different stations, each a DRIFTING peer that is
not ABSENT or a BARRED peer, never the own number, in the order of R100, and nobody who stands before a listed one is left
out. -/
def Obligations.AccusationListGiven : Prop :=
  ∀ (f : LaunchFields) (s : State), s.span.frame = some f → f.accusations = none →
    ∃ l, exec .accusationList s =
        .next { s with span := { s.span with frame := some { f with accusations := some l } } }
      ∧ l.length ≤ 4 ∧ l.Nodup
      ∧ (∀ p ∈ l, toBeAccused s p)
      ∧ l.Pairwise (accusedBefore s)
      ∧ ∀ p, toBeAccused s p → p ∉ l → l.length = 4 ∧ ∀ q ∈ l, accusedBefore s q p

/-! ## The warning list -/

/-- R2, R24, R103, R104, R105, R106: DMON takes a raise: of OSC_FALLBACK at the fallback notice, of DUPLICATE_NUMBER at the duplicate
notice and of another block's warning, each with the raise time that its sender gave. A warning that is
there changes nothing; a new one goes after every warning raised no later and before every one raised later, and sets "warnings
changed". A removal takes out the warning that is there, the others keep their order and "warnings changed" is set; one that is
not there changes nothing. -/
def Obligations.WarningsRaisedAndRemoved : Prop :=
  ∀ s : State, WarningsStanding s →
    (∀ time rest, s.net.fallbackDmon = time :: rest →
        ∃ t, exec .fallbackNoticeAtDmon s = .next t
          ∧ Raised { kind := .oscFallback, subject := .own, time := time, value := 0 }
            { s with net := { s.net with fallbackDmon := rest } } t)
      ∧ (∀ time rest, s.net.duplicates = time :: rest →
        ∃ t, exec .duplicateNotice s = .next t
          ∧ Raised { kind := .duplicateNumber, subject := .own, time := time, value := 0 }
            { s with net := { s.net with duplicates := rest } } t)
      ∧ ∀ (k : NoticeKind) (a b : List WarnNotice), (∀ x ∈ a, x.kind ≠ k) →
        let kind : WarningKind :=
          match k with
          | .selfAccused => .selfAccused
          | .noAgreement => .noAgreement
          | .anchorLost => .anchorLost
          | .overflow => .overflow
        (∀ time, s.net.warn = a ++ .raise k time :: b →
            ∃ t, exec (.raiseNotice k) s = .next t
              ∧ Raised { kind := kind, subject := .own, time := time, value := 0 }
                { s with net := { s.net with warn := a ++ b } } t)
          ∧ (s.net.warn = a ++ .remove k :: b →
            ∃ t, exec (.removalNotice k) s = .next t
              ∧ RemovedOwn kind { s with net := { s.net with warn := a ++ b } } t)

/-! ## The peer table -/

/-- R43, R46, R51 to R53: a frame that is taken without a beat test. A BARRED record ignores it; an ABSENT record, or a LISTENING
one with an in-beat count of 0, takes it as a first beacon; a repeated sequence is discarded. -/
def Obligations.FirstBeaconTaken : Prop :=
  ∀ (h : HandOff) (rest : List HandOff) (s : State), s.net.handOffs = h :: rest → PeerTableStanding s →
    SettingsInRange s.svc.image →
    let r := s.ptab[h.station]
    let taken := { s with net := { s.net with handOffs := rest } }
    (r.link = .barred → exec .handOff s = .next taken)
      ∧ (r.link = .absent ∨ r.link = .listening ∧ r.inBeat = 0 →
        exec .handOff s =
          .next
            { taken with
              ptab :=
                s.ptab.set h.station
                  (acceptedRecord s.svc.station (profileAttrs s.svc.image r.profile) .listening 1 0 h r) })
      ∧ (r.link = .listening ∧ r.inBeat = 1 ∨ r.link = .admitted ∨ r.link = .silent → h.seq = r.lastSeq →
        exec .handOff s = .next taken)

/-- R43 to R47, R55, R56: a frame that is beat-tested, by the record's stated interval and the profile's acceptance code: in beat,
early or late, and what each makes of a LISTENING, an ADMITTED and a SILENT record, with the notices to DMON. -/
def Obligations.BeatTestOutcomes : Prop :=
  ∀ (h : HandOff) (rest : List HandOff) (s : State) (p : Period), s.net.handOffs = h :: rest → PeerTableStanding s →
    SettingsInRange s.svc.image → s.ptab[h.station].interval = some p → h.seq ≠ s.ptab[h.station].lastSeq →
    let r := s.ptab[h.station]
    let a := profileAttrs s.svc.image r.profile
    let d := beatOffsetNs p r h
    let half := halfWidthNs p a.accept
    let accepted (link : LinkState) (inBeat : Nat) (dissent : Nat) := acceptedRecord s.svc.station a link inBeat dissent h r
    let after (r' : PeerRecord) (notices : List PeerNotice) : State :=
      { s with
        net := { s.net with handOffs := rest, toDmon := s.net.toDmon ++ notices }
        ptab := s.ptab.set h.station r' }
    let sample (r' : PeerRecord) : List PeerNotice := [.sample h.station h.tick ((r'.obs.map Observation.thetaP).getD 0)]
    (r.link = .listening → r.inBeat = 1 →
        (h.period = p → -half ≤ d → d ≤ half →
            exec .handOff s = .next (after (accepted .admitted 2 0) (sample (accepted .admitted 2 0))))
          ∧ (h.period ≠ p ∨ d < -half ∨ half < d → exec .handOff s = .next (after (accepted .listening 1 0) [])))
      ∧ (r.link = .admitted →
        (h.period = p → -half ≤ d → d ≤ half →
            exec .handOff s =
              .next
                (after (accepted .admitted 2 r.dissent)
                  ((if h.flags.stepped then [.window h.station] else []) ++ sample (accepted .admitted 2 r.dissent))))
          ∧ (h.period = p → d < -half → exec .handOff s = .next (after (barredRecord s.osc.tick p r) [.leave h.station]))
          ∧ (h.period ≠ p ∨ half < d → exec .handOff s = .next (after (accepted .listening 1 0) [.leave h.station])))
      ∧ (r.link = .silent → exec .handOff s = .next (after (accepted .listening 1 0) []))

/-- R47, R48, R49: the bar expiry of a BARRED record, and the silence expiry of a LISTENING, an ADMITTED and a SILENT one, when the
tick counter has reached them, and nothing before that or in another link state. That a command brought early changes nothing
and one brought late still acts is the model's choice (log entries 3 and 4). -/
def Obligations.ExpiriesTaken : Prop :=
  (∀ (q : Station) (s : State),
    (s.ptab[q].link ≠ .barred ∨ (∀ t ∈ s.ptab[q].barExpiry, s.osc.tick < t) → exec (.barExpiry q) s = .next s)
      ∧ (s.ptab[q].link = .absent ∨ s.ptab[q].link = .barred ∨ (∀ e ∈ s.ptab[q].silenceExpiry, (s.osc.tick : Int) < e) →
        exec (.silenceExpiry q) s = .next s))
  ∧ ∀ (q : Station) (p : Period) (s : State), PeerTableStanding s → SettingsInRange s.svc.image → s.ptab[q].interval = some p →
    let r := s.ptab[q]
    let a := profileAttrs s.svc.image r.profile
    (∀ t, r.link = .barred → r.barExpiry = some t → t ≤ s.osc.tick →
        exec (.barExpiry q) s =
          .next
            { s with
              ptab :=
                s.ptab.set q
                  { r with
                    link := .listening
                    inBeat := 0
                    barExpiry := none
                    silenceExpiry := some (t + 4 * (p.ns / 40) - (-(halfWidthNs p a.accept)) / 40) } })
      ∧ ∀ e : Int, r.silenceExpiry = some e → e ≤ s.osc.tick →
        let silent : PeerRecord :=
          { r with link := .silent, inBeat := 0, dissent := 0, silenceExpiry := some (e + 60 * (p.ns / 40)) }
        (r.link = .listening → exec (.silenceExpiry q) s = .next { s with ptab := s.ptab.set q silent })
          ∧ (r.link = .admitted →
            exec (.silenceExpiry q) s =
              .next
                { s with
                  ptab := s.ptab.set q silent
                  net := { s.net with toDmon := s.net.toDmon ++ [.leave q] } })
          ∧ (r.link = .silent →
            exec (.silenceExpiry q) s =
              .next
                { s with
                  ptab :=
                    s.ptab.set q
                      { link := .absent, profile := r.profile, lastSeq := 0, lastSched := 0, interval := none, inBeat := 0
                        dissent := 0, barExpiry := none, silenceExpiry := none, accusesMe := false, obs := none } })

/-- R47, R56, R58: a dissent notice counts a dissent for every ADMITTED dissenter, bars it at the third in a row with a leave notice
to DMON, clears the count of every ADMITTED agreeing participant and passes everyone else over. -/
def Obligations.DissentTaken : Prop :=
  ∀ (d : Dissent) (rest : List Dissent) (s : State), s.net.dissent = d :: rest → PeerTableStanding s →
    ∃ (t : State) (barred : List Station), exec .dissentNotice s = .next t
      ∧ t =
        { s with
          ptab := t.ptab
          net := { s.net with dissent := rest, toDmon := s.net.toDmon ++ barred.map .leave } }
      ∧ barred.Pairwise (· < ·)
      ∧ (∀ q, q ∈ barred ↔
          q ≠ s.svc.station ∧ q ∈ d.dissenters ∧ s.ptab[q].link = .admitted ∧ s.ptab[q].dissent = 2)
      ∧ ∀ q : Station,
        let r := s.ptab[q]
        (q = s.svc.station ∨ r.link ≠ .admitted ∨ (q ∉ d.dissenters ∧ q ∉ d.agreeing) → t.ptab[q] = r)
          ∧ (q ≠ s.svc.station → r.link = .admitted → q ∈ d.dissenters → r.dissent < 2 →
            t.ptab[q] = { r with dissent := r.dissent + 1 })
          ∧ (∀ p, q ∈ barred → r.interval = some p → t.ptab[q] = barredRecord s.osc.tick p r)
          ∧ (q ≠ s.svc.station → r.link = .admitted → q ∉ d.dissenters → q ∈ d.agreeing →
            t.ptab[q] = { r with dissent := 0 })

/-! ## Step notices -/

/-- R54, R65, R91, R117, R134, R135: a step notice of C at AGU, which passes it on to PTAB, at PTAB, DMON, ANCH and CAPU: what each
rebases or empties, and that nothing else changes. CAPU takes it on its boundary tick only once that tick's edges are stamped and
its settle tests made, and before it stamps or tests on any later tick. That a notice brought too early waits is how the model
keeps that order (log entry 11). -/
def Obligations.StepNoticesTaken : Prop :=
  ∀ (c : Int) (rest : List Int) (s : State),
    (s.net.stepAgu = c :: rest →
        exec .stepNoticeAtAgu s =
          .next
            { s with
              net := { s.net with stepAgu := rest, rebase := s.net.rebase ++ [c] }
              agu := { s.agu with stepped := true, stepTick := some s.osc.tick } })
      ∧ (s.net.rebase = c :: rest →
        ∃ t, exec .rebaseNotice s = .next t
          ∧ t = { s with ptab := t.ptab, net := { s.net with rebase := rest } }
          ∧ ∀ q : Station,
            t.ptab[q] =
              { s.ptab[q] with
                obs :=
                  s.ptab[q].obs.map fun o =>
                    { o with
                      theta := max (-(2 ^ 47 - 1)) (min (2 ^ 47 - 1) (o.theta - c))
                      thetaP := max (-(2 ^ 63 - 1)) (min (2 ^ 63 - 1) (o.thetaP - c)) } })
      ∧ (s.net.stepDmon = c :: rest →
        ∃ t, exec .stepNoticeAtDmon s = .next t
          ∧ t =
            { s with
              dmon := { s.dmon with drift := t.dmon.drift, stepTick := some s.osc.tick }
              net := { s.net with stepDmon := rest } }
          ∧ ∀ q : Station, t.dmon.drift[q] = { s.dmon.drift[q] with window := [] })
      ∧ (s.net.stepAnch = c :: rest →
        exec .stepNoticeAtAnch s =
          .next
            { s with
              net := { s.net with stepAnch := rest }
              anch := { s.anch with alpha := s.anch.alpha.map fun a => a - c } })
      ∧ ∀ (n : StepNotice) (later : List StepNotice), s.net.stepCapu = n :: later →
        let settleable (e : CapEntry) :=
          e.state = .pending ∧ ownU s < 4294967295 ∧ e.unc < 4294967295 ∧ e.ts + e.unc < (clockAtCapu s : Int) - ownU s
        let waiting :=
          (∃ l e, OfInterest s l e) ∨ ((∀ x ∈ later, x.tick = s.osc.tick) ∧ ∃ e ∈ s.capu.queue, settleable e)
        (n.tick = s.osc.tick → waiting → exec .stepNoticeAtCapu s = .next s)
          ∧ (n.tick ≠ s.osc.tick ∨ ¬waiting →
            exec .stepNoticeAtCapu s =
              .next
                { s with
                  net := { s.net with stepCapu := later }
                  capu :=
                    { s.capu with
                      queue :=
                        s.capu.queue.map fun e =>
                          { e with
                            ts := max (-281474976710655999999999) (min 281474976710655999999999 (e.ts + n.c))
                            rebased := min 15 (e.rebased + 1) } } })


/-! ## Rounds -/

/-- R74: the sweep finds the largest number c of intervals with a common value, and a region [a, b] whose values lie in exactly c
of them, from a start to the next end with no start after the one and no end before the other, which no region of the same count lies nearer to 0 than, the lower of two equally near. With
no interval c is 0 and there is no region. A close on the tick of its round timer takes c and the region of its n intervals. -/
def Obligations.SweepFindsTheWidestOverlap : Prop :=
  sweep [] = (0, none)
  ∧ (∀ s : State, s.agu.roundTimer = some s.osc.tick →
    ∃ t, exec .roundClose s = .next t ∧ t.agu.record.n = some (takenIntervals s).length
      ∧ t.agu.record.c = some (sweep (takenIntervals s)).1 ∧ t.agu.record.region = (sweep (takenIntervals s)).2)
  ∧ ∀ is : List Interval, is ≠ [] → (∀ i ∈ is, i.lo ≤ i.hi) →
    ∃ c a b, sweep is = (c, some (a, b))
      ∧ 1 ≤ c ∧ c ≤ is.length ∧ a ≤ b
      ∧ (∀ x, overlap is x ≤ c)
      ∧ (∀ x, a ≤ x → x ≤ b → overlap is x = c)
      ∧ (∃ i ∈ is, i.lo = a) ∧ (∃ i ∈ is, i.hi = b)
      ∧ (∀ i ∈ is, ¬(a < i.lo ∧ i.lo ≤ b) ∧ ¬(a ≤ i.hi ∧ i.hi < b))
      ∧ ∀ a' b', a' ≤ b' → (∀ x, a' ≤ x → x ≤ b' → overlap is x = c) → (∃ i ∈ is, i.lo = a') → (∃ i ∈ is, i.hi = b') →
        (∀ i ∈ is, ¬(a' < i.lo ∧ i.lo ≤ b') ∧ ¬(a' ≤ i.hi ∧ i.hi < b')) →
          (a + b).natAbs < (a' + b').natAbs ∨ ((a + b).natAbs = (a' + b').natAbs ∧ a ≤ a')

/-- R75: the outcome of a close by its n and c and the strapped F: SPARSE below 2F + 1 intervals, else AGREED with at least n - F
of them overlapping, else SPLIT. That a close brought late still acts is the model's choice (log entry 4). -/
def Obligations.OutcomeOfAClose : Prop :=
  ∀ (timer : Tick) (s : State), s.agu.roundTimer = some timer → timer ≤ s.osc.tick →
    let f := strappedF s
    let n := (takenIntervals s).length
    let c := (sweep (takenIntervals s)).1
    ∃ t, exec .roundClose s = .next t ∧ t.agu.record.n = some n ∧ t.agu.record.c = some c
      ∧ (n < 2 * f + 1 → t.agu.record.outcome = .sparse)
      ∧ (n ≥ 2 * f + 1 → c ≥ n - f → t.agu.record.outcome = .agreed)
      ∧ (n ≥ 2 * f + 1 → c < n - f → t.agu.record.outcome = .split)

/-- R71, R72, R73: the intervals a close takes, in ascending station order: one for every ADMITTED peer whose verdict is not
DRIFTING and whose bound, aged to the close tick, is below UNBOUNDED, and the anchor's, the own or none for the own station. -/
def Obligations.IntervalsTaken : Prop :=
  ∀ s : State,
    let own := s.svc.station
    (takenIntervals s).Pairwise (fun i j => i.who < j.who)
      ∧ (takenIntervals s).countP (fun i => i.who ≠ own) = eligiblePeers s
      ∧ (∀ i : Interval, i.who ≠ own →
          (i ∈ takenIntervals s ↔
            s.ptab[i.who].link = .admitted ∧ s.dmon.drift[i.who].verdict ≠ .drifting
              ∧ ∃ o, s.ptab[i.who].obs = some o
                ∧ ∃ eps : Nat,
                  eps = o.eps0
                      + ((s.osc.tick - o.arrivalTick) * 40 * (profileAttrs s.svc.image s.ptab[i.who].profile).aging + 999999)
                        / 1000000
                    ∧ eps < 4294967295 ∧ i.lo = o.theta - eps ∧ i.hi = o.theta + eps))
      ∧ ∀ i : Interval, i.who = own →
        (∀ alpha, s.anch.state = .qualified → s.anch.alpha = some alpha →
            (i ∈ takenIntervals s ↔ i.lo = alpha - (s.anch.uRef + 80) ∧ i.hi = alpha + (s.anch.uRef + 80)))
          ∧ (s.anch.state ≠ .qualified → s.agu.humble = false → ownU s < 4294967295 →
            (i ∈ takenIntervals s ↔ i.lo = -(ownU s : Int) ∧ i.hi = ownU s))
          ∧ (s.anch.state ≠ .qualified → s.agu.humble = true ∨ ownU s = 4294967295 → i ∉ takenIntervals s)

/-- R69, R75, R76, R77, R80, R83, R84: an AGREED close. C is the region's middle truncated, h half its width ceiled; a step if
UNSET is set or abs(C) is above the step threshold, else a slew; base and base tick set, UNSET cleared, the record made, and the
dissent and round-start notices sent. HUMBLE and the warning notices are another statement's. Before the round timer is reached,
or with none set, no close of any outcome comes about. That ROUND_CLOSE brought early changes nothing and brought late still
closes is the model's choice (log entries 3 and 4). -/
def Obligations.AgreedClose : Prop :=
  (∀ s : State, (∀ t ∈ s.agu.roundTimer, s.osc.tick < t) → exec .roundClose s = .next s)
  ∧ ∀ (timer : Tick) (c : Nat) (a b : Int) (s : State), s.agu.roundTimer = some timer → timer ≤ s.osc.tick →
    sweep (takenIntervals s) = (c, some (a, b)) → Agrees (strappedF s) (takenIntervals s).length c →
    let is := takenIntervals s
    let corr := (a + b).tdiv 2
    let h := ((b - a).toNat + 1) / 2
    let stepping := s.agu.unset = true ∨ s.svc.image.stepThreshold < corr.natAbs
    let dissenters := (is.filter fun i => i.who ≠ s.svc.station ∧ (i.hi < a ∨ b < i.lo)).map Interval.who
    ∃ (t : State) (posting : Posting) (base : Nat), exec .roundClose s = .next t
      ∧ (stepping → posting = .step corr ∧ base = min 4294967295 (h + 80))
      ∧ (¬stepping → posting = .phase (slewPosting s corr) ∧ base = min 4294967295 (corr.natAbs + h + 80))
      ∧ t =
        { s with
          agu :=
            { s.agu with
              sync := .agreed
              unset := false
              humble := t.agu.humble
              base := base
              baseTick := s.osc.tick
              roundTimer := some (s.osc.tick + s.svc.image.period.ns / 40)
              run := 0
              record :=
                { outcome := .agreed
                  close := some (s.eclk.secs * 1000000000 + s.eclk.ns, s.osc.tick)
                  n := some is.length
                  c := some c
                  region := some (a, b)
                  corr := some corr
                  h := some h
                  application := t.agu.record.application
                  posted := some posting
                  participants := is.map Interval.who
                  dissenters := dissenters
                  newBase := some base
                  baseSet := true } }
          net :=
            { s.net with
              postAgu := s.net.postAgu ++ [posting]
              dissent := s.net.dissent
                ++ [{ dissenters := dissenters, agreeing := (is.filter fun i => a ≤ i.hi ∧ i.lo ≤ b).map Interval.who }]
              roundStart := s.net.roundStart ++ [{ tick := s.osc.tick, first := false }]
              warn := t.net.warn } }
      ∧ (stepping → t.agu.record.application = .step) ∧ (¬stepping → t.agu.record.application = .slew)

/-- R69, R75, R76, R78, R79, R83, R84: a SPARSE or SPLIT close. Without a QUALIFIED anchor it posts phase 0 and keeps base, base
tick and UNSET; with one it corrects by α and takes its base from u_ref. LONE if no peer is eligible, else HOLDOVER; no dissent
notice. HUMBLE, the run and the warning notices are another statement's. That a
close brought late still acts is the model's choice (log entry 4); before its tick there is none (AgreedClose). -/
def Obligations.CloseWithoutAgreement : Prop :=
  ∀ (timer : Tick) (s : State), s.agu.roundTimer = some timer → timer ≤ s.osc.tick →
    let is := takenIntervals s
    let c := (sweep is).1
    ¬Agrees (strappedF s) is.length c →
      ∃ (t : State) (posting : Posting) (corr : Option Int) (base : Option Nat) (application : Application),
        exec .roundClose s = .next t
          ∧ (s.anch.state ≠ .qualified → posting = .phase 0 ∧ corr = none ∧ base = none ∧ application = .none)
          ∧ (∀ alpha, s.anch.state = .qualified → s.anch.alpha = some alpha →
              corr = some alpha ∧ base = some (min 4294967295 (alpha.natAbs + s.anch.uRef + 80)) ∧ application = .anchorFollow
                ∧ (s.agu.unset = true ∨ s.svc.image.stepThreshold < alpha.natAbs → posting = .step alpha)
                ∧ (s.agu.unset = false → alpha.natAbs ≤ s.svc.image.stepThreshold → posting = .phase (slewPosting s alpha)))
          ∧ t =
            { s with
              agu :=
                { s.agu with
                  sync := if eligiblePeers s = 0 then .lone else .holdover
                  unset := if base = none then s.agu.unset else false
                  humble := t.agu.humble
                  base := base.getD s.agu.base
                  baseTick := if base = none then s.agu.baseTick else s.osc.tick
                  roundTimer := some (s.osc.tick + s.svc.image.period.ns / 40)
                  run := t.agu.run
                  record :=
                    { outcome := if is.length < 2 * strappedF s + 1 then .sparse else .split
                      close := some (s.eclk.secs * 1000000000 + s.eclk.ns, s.osc.tick)
                      n := some is.length
                      c := some c
                      region := (sweep is).2
                      corr := corr
                      h := none
                      application := application
                      posted := some posting
                      participants := is.map Interval.who
                      dissenters := []
                      newBase := some (base.getD s.agu.base)
                      baseSet := base.isSome } }
              net :=
                { s.net with
                  postAgu := s.net.postAgu ++ [posting]
                  roundStart := s.net.roundStart ++ [{ tick := s.osc.tick, first := false }]
                  warn := t.net.warn } }

/-- R81, R82: at every close, whatever its outcome, the accusers are counted against the ADMITTED peers for HUMBLE and
SELF_ACCUSED, and the disagreement run is kept for NO_AGREEMENT. That a close brought late still acts is the model's choice (log
entry 4). -/
def Obligations.HumbleAndDisagreementRun : Prop :=
  ∀ (timer : Tick) (s : State), s.agu.roundTimer = some timer → timer ≤ s.osc.tick →
    let now := s.eclk.secs * 1000000000 + s.eclk.ns
    let admitted := (List.finRange 32).countP fun p : Station => p ≠ s.svc.station ∧ s.ptab[p].link = .admitted
    let accusers :=
      (List.finRange 32).countP fun p : Station =>
        p ≠ s.svc.station ∧ s.ptab[p].link = .admitted ∧ s.ptab[p].accusesMe = true
    let enters := 2 ≤ accusers ∧ admitted < 2 * accusers
    let leaves := 4 * accusers ≤ admitted
    let agreed := Agrees (strappedF s) (takenIntervals s).length (sweep (takenIntervals s)).1
    ∃ (t : State) (accused disagreed : List WarnNotice), exec .roundClose s = .next t
      ∧ t.net.warn = s.net.warn ++ accused ++ disagreed
      ∧ (enters → accused = [.raise .selfAccused now]
          ∧ t.agu.humble = (s.agu.humble || decide (s.anch.state ≠ .qualified)))
      ∧ (leaves → accused = [.remove .selfAccused] ∧ t.agu.humble = false)
      ∧ (¬enters → ¬leaves → accused = [] ∧ t.agu.humble = s.agu.humble)
      ∧ (agreed → disagreed = [.remove .noAgreement] ∧ t.agu.run = 0)
      ∧ (¬agreed → eligiblePeers s = 0 → disagreed = [] ∧ t.agu.run = s.agu.run)
      ∧ (¬agreed → eligiblePeers s ≠ 0 →
          t.agu.run = min 65535 (s.agu.run + 1)
            ∧ disagreed = if 4 ≤ s.agu.run + 1 then [.raise .noAgreement now] else [])

/-- R26, R42, R63, R92, R164: START in CONFIG begins LISTEN: AGU sets its end three round periods ahead, PTAB fixes each profile,
DMON sets the review timer and ECLK clears the posting hold. The end of LISTEN makes the state LONE, sets the round timer one
period ahead and sends the first round-start notice; before its tick, or outside LISTEN, it does not come. That END_OF_LISTEN
brought early changes nothing and brought late still acts is the model's choice (log entries 3 and 4). -/
def Obligations.ListenBeginsAndEnds : Prop :=
  ∀ s : State,
    (s.svc.request = none → s.agu.sync = .config →
        ∃ t, exec .start s = .next (answered 0x02 .ok [] t)
          ∧ t =
            { s with
              eclk := { s.eclk with hold := false }
              ptab := t.ptab
              agu :=
                { s.agu with sync := .listen, endListen := some (s.osc.tick + 3 * (s.svc.image.period.ns / 40)) }
              dmon := { s.dmon with reviewTimer := some (s.osc.tick + s.svc.image.reviewS * 25000000) } }
          ∧ ∀ p : Station,
            ∃ prof, t.ptab[p] = { s.ptab[p] with profile := some prof }
              ∧ ((∀ w : Fin 4, ¬(s.svc.image.windows[w].first ≤ p.val ∧ p.val ≤ s.svc.image.windows[w].last)) → prof = .dflt)
              ∧ ∀ w : Fin 4, s.svc.image.windows[w].first ≤ p.val → p.val ≤ s.svc.image.windows[w].last →
                (∀ v < w, ¬(s.svc.image.windows[v].first ≤ p.val ∧ p.val ≤ s.svc.image.windows[v].last)) → prof = .window w)
      ∧ (s.svc.request = none → s.agu.sync ≠ .config → exec .start s = .next (answered 0x02 .wrongState [] s))
      ∧ (s.agu.sync ≠ .listen ∨ (∀ t ∈ s.agu.endListen, s.osc.tick < t) → exec .endOfListen s = .next s)
      ∧ ∀ t, s.agu.sync = .listen → s.agu.endListen = some t → t ≤ s.osc.tick →
        exec .endOfListen s =
          .next
            { s with
              agu :=
                { s.agu with
                  sync := .lone, endListen := none, roundTimer := some (s.osc.tick + s.svc.image.period.ns / 40) }
              net := { s.net with roundStart := s.net.roundStart ++ [{ tick := s.osc.tick, first := true }] } }

/-! ## The drift monitor -/

/-- R88, R89, R90: a sample from before the step tick is discarded; another is appended, and at 8 samples the rate of the two
halves, truncated and clamped, becomes the latest rate and fresh, and the older half leaves. A leave notice empties the window
and clears the fresh flag; a window notice empties the window. -/
def Obligations.SamplesAndNoticesTaken : Prop :=
  ∀ (p : Station) (rest : List PeerNotice) (s : State),
    let r := s.dmon.drift[p]
    let after (r' : DriftRecord) : State :=
      { s with net := { s.net with toDmon := rest }, dmon := { s.dmon with drift := s.dmon.drift.set p r' } }
    (s.net.toDmon = .leave p :: rest → exec .leaveNotice s = .next (after { r with window := [], fresh := false }))
      ∧ (s.net.toDmon = .window p :: rest → exec .windowNotice s = .next (after { r with window := [] }))
      ∧ ∀ tick thetaP, s.net.toDmon = .sample p tick thetaP :: rest →
        (∀ t, s.dmon.stepTick = some t → tick < t →
            exec .sample s = .next { s with net := { s.net with toDmon := rest } })
          ∧ ((∀ t, s.dmon.stepTick = some t → t ≤ tick) →
            (r.window.length ≠ 7 → exec .sample s = .next (after { r with window := r.window ++ [(tick, thetaP)] }))
              ∧ ∀ early late, r.window ++ [(tick, thetaP)] = early ++ late → early.length = 4 → late.length = 4 →
                let num := ((late.map Prod.snd).sum - (early.map Prod.snd).sum) * 1000000000
                let den := (((late.map Prod.fst).sum : Int) - (early.map Prod.fst).sum) * 40
                exec .sample s =
                  .next
                    (after
                      { r with
                        window := late
                        rate := some (max (-10000000) (min 10000000 (num.tdiv den)))
                        fresh := true }))

/-- R95: how a verdict moves by the magnitude of its d against the drift limit L, L/2 compared exactly. -/
def Obligations.VerdictMoves : Prop :=
  ∀ (l : Nat) (d : Int),
    (d.natAbs > l →
        nextVerdict l .steady d = .suspect ∧ nextVerdict l .suspect d = .drifting ∧ nextVerdict l .drifting d = .drifting
          ∧ nextVerdict l .easing d = .drifting)
      ∧ (l < 2 * d.natAbs → d.natAbs ≤ l →
        nextVerdict l .steady d = .steady ∧ nextVerdict l .suspect d = .steady ∧ nextVerdict l .drifting d = .drifting
          ∧ nextVerdict l .easing d = .easing)
      ∧ (2 * d.natAbs ≤ l →
        nextVerdict l .steady d = .steady ∧ nextVerdict l .suspect d = .steady ∧ nextVerdict l .drifting d = .easing
          ∧ nextVerdict l .easing d = .steady)

/-- R92, R93, R94, R96 to R99, R103, R104: a review. With fewer than three review rates only its record and its timer change. With three or
more, ρref is the rate at position floor((k + 1) / 2); every peer with a review rate and the own clock are judged by their
distance from it, every fresh flag is cleared, the trim is posted, and the warning list gains a drift warning where a verdict
enters DRIFTING and none is present, loses it where one enters STEADY, and changes in no other way: the warnings it keeps stay in
their order, and the new ones go in behind those raised no later and before those raised later, ascending by peer and the own
station last. Before the review timer is reached, or with none set, no review comes about. That REVIEW brought early changes
nothing and brought late is still held is the model's choice (log entries 3 and 4). -/
def Obligations.ReviewHeld : Prop :=
  (∀ s : State, (∀ t ∈ s.dmon.reviewTimer, s.osc.tick < t) → exec .review s = .next s)
  ∧ ∀ (timer : Tick) (s : State), WarningsStanding s → s.dmon.reviewTimer = some timer → timer ≤ s.osc.tick →
    let rate (p : Station) : Option Int :=
      if p ≠ s.svc.station ∧ s.dmon.drift[p].fresh = true ∧ s.ptab[p].link = .admitted then s.dmon.drift[p].rate else none
    let rates := 0 :: (List.finRange 32).filterMap rate
    let k := rates.length
    let next := some (s.osc.tick + s.svc.image.reviewS * 25000000)
    let now := s.eclk.secs * 1000000000 + s.eclk.ns
    (k < 3 →
        exec .review s =
          .next
            { s with
              dmon :=
                { s.dmon with
                  reviewTimer := next
                  review :=
                    { outcome := .inconclusive, tick := some s.osc.tick, k := some k, ref := none, ownD := none
                      trim := none } } })
      ∧ (3 ≤ k →
        ∃ (t : State) (ref : Int) (sorted : List Int), exec .review s = .next t
          ∧ sorted.Perm rates ∧ sorted.Pairwise (· ≤ ·) ∧ sorted[(k + 1) / 2 - 1]? = some ref
          ∧ (let trim := max (-67108) (min 67108 (s.eclk.trim + rounded (ref * 671088640) 2000000000))
            t =
              { s with
                dmon :=
                  { drift := t.dmon.drift
                    ownVerdict := nextVerdict s.svc.image.dflt.driftLimit s.dmon.ownVerdict (-ref)
                    ownD := -ref
                    stepTick := s.dmon.stepTick
                    reviewTimer := next
                    review :=
                      { outcome := .conclusive, tick := some s.osc.tick, k := some k, ref := some ref, ownD := some (-ref)
                        trim := some trim }
                    warnings := t.dmon.warnings }
                svc := { s.svc with warningsChanged := t.svc.warningsChanged }
                net := { s.net with postDmon := s.net.postDmon ++ [.trim trim] } })
          ∧ (∀ p : Station,
            let r := s.dmon.drift[p]
            (rate p = none → t.dmon.drift[p] = { r with fresh := false })
              ∧ ∀ rho, rate p = some rho →
                let v := nextVerdict (profileAttrs s.svc.image s.ptab[p].profile).driftLimit r.verdict (rho - ref)
                t.dmon.drift[p] = { r with fresh := false, verdict := v, d := rho - ref }
                  ∧ (v = .drifting → r.verdict ≠ .drifting →
                    (∀ w ∈ s.dmon.warnings, w.kind ≠ .peerDrifting ∨ w.subject ≠ .peer p) →
                      { kind := .peerDrifting, subject := .peer p, time := now, value := rho - ref } ∈ t.dmon.warnings)
                  ∧ (v = .steady → r.verdict ≠ .steady →
                    ∀ w ∈ t.dmon.warnings, w.kind ≠ .peerDrifting ∨ w.subject ≠ .peer p))
          ∧ (t.dmon.ownVerdict = .drifting → s.dmon.ownVerdict ≠ .drifting →
            (∀ w ∈ s.dmon.warnings, w.kind ≠ .selfDrifting) →
              { kind := .selfDrifting, subject := .own, time := now, value := -ref } ∈ t.dmon.warnings)
          ∧ (t.dmon.ownVerdict = .steady → s.dmon.ownVerdict ≠ .steady → ∀ w ∈ t.dmon.warnings, w.kind ≠ .selfDrifting)
          ∧ (∀ w ∈ s.dmon.warnings, w ∉ t.dmon.warnings →
            w.kind = .selfDrifting ∧ t.dmon.ownVerdict = .steady ∧ s.dmon.ownVerdict ≠ .steady
              ∨ ∃ p : Station,
                w.kind = .peerDrifting ∧ w.subject = .peer p ∧ t.dmon.drift[p].verdict = .steady
                  ∧ s.dmon.drift[p].verdict ≠ .steady)
          ∧ (∀ w ∈ t.dmon.warnings, w ∉ s.dmon.warnings →
            w = { kind := .selfDrifting, subject := .own, time := now, value := -ref } ∧ t.dmon.ownVerdict = .drifting
                ∧ s.dmon.ownVerdict ≠ .drifting
              ∨ ∃ p : Station,
                w = { kind := .peerDrifting, subject := .peer p, time := now, value := t.dmon.drift[p].d }
                  ∧ t.dmon.drift[p].verdict = .drifting ∧ s.dmon.drift[p].verdict ≠ .drifting)
          ∧ (∃ added : List Warning,
            let kept := s.dmon.warnings.filter (· ∈ t.dmon.warnings)
            t.dmon.warnings = kept.filter (fun w => w.time ≤ now) ++ added ++ kept.filter (fun w => now < w.time)
              ∧ (∀ w ∈ added, w ∉ s.dmon.warnings)
              ∧ added.Pairwise RaisedEarlier)
          ∧ (t.dmon.warnings ≠ s.dmon.warnings → t.svc.warningsChanged = true)
          ∧ (t.dmon.warnings = s.dmon.warnings → t.svc.warningsChanged = s.svc.warningsChanged))

/-! ## The anchor input -/

/-- R109, R111, R113, R115, R116: the oldest pulse found and not yet taken, by the anchor state and by where its tick falls against
the open window: ignored, a lead pulse, good or early, with the count, the run, s, α formed from its stamp, the window it leaves
and the notices to DMON. A pulse after the window's last tick waits for that window's end. The model's readings: that a pulse is
held, with its stamp, until it is taken (log entry 9), and that s stops at 2^48 - 1 wherever it advances and is 2^48 - 1 for an
early pulse marked as the second before 0 (21). -/
def Obligations.PulseTaken : Prop :=
  ∀ (p : Pulse) (rest : List Pulse) (s : State), s.anch.pulses = p :: rest →
    let seen := { s.anch with pulses := rest }
    let next : Option AnchorWindow := some { expected := p.tick + 25000000, half := windowTicks s, missed := false }
    let marked (mark : Nat) (a : Anch) : Anch :=
      { a with alpha := some ((mark : Int) * 1000000000 - p.stamp), s := some (min 281474976710655 (mark + 1)), window := next }
    (s.anch.state = .unarmed ∨ s.anch.state = .lost → exec .pulse s = .next { s with anch := seen })
      ∧ (∀ sec, s.anch.state = .armed → s.anch.window = none → s.anch.s = some sec →
        exec .pulse s = .next { s with anch := marked sec seen })
      ∧ ∀ w sec, s.anch.window = some w → s.anch.s = some sec → s.anch.state = .armed ∨ s.anch.state = .qualified →
        (w.expected ≤ p.tick + w.half → p.tick ≤ w.expected + w.half →
            let good := { marked sec seen with lastGood := some p.tick }
            (s.anch.state = .armed → s.anch.good < 2 →
                exec .pulse s = .next { s with anch := { good with good := s.anch.good + 1 } })
              ∧ (s.anch.state = .armed → s.anch.good = 2 →
                exec .pulse s =
                  .next
                    { s with
                      anch := { good with state := .qualified, miss := 0, good := 0 }
                      net := { s.net with warn := s.net.warn ++ [.remove .anchorLost] } })
              ∧ (s.anch.state = .qualified → exec .pulse s = .next { s with anch := { good with miss := 0 } }))
          ∧ (p.tick + w.half < w.expected →
            (s.anch.state = .armed → w.expected - p.tick ≤ 12500000 →
                exec .pulse s = .next { s with anch := { marked sec seen with good := 0 } })
              ∧ (s.anch.state = .armed → 12500000 < w.expected - p.tick →
                exec .pulse s =
                  .next
                    { s with anch := { marked (if sec = 0 then 281474976710655 else sec - 1) seen with good := 0 } })
              ∧ (s.anch.state = .qualified → w.missed = true → exec .pulse s = .next { s with anch := seen })
              ∧ (s.anch.state = .qualified → w.missed = false → s.anch.miss = 0 →
                exec .pulse s = .next { s with anch := { seen with miss := 1, window := some { w with missed := true } } })
              ∧ (s.anch.state = .qualified → w.missed = false → s.anch.miss = 1 →
                exec .pulse s =
                  .next
                    { s with
                      anch := { seen with state := .lost, window := none, miss := 0, good := 0 }
                      net :=
                        { s.net with
                          warn := s.net.warn ++ [.raise .anchorLost (s.eclk.secs * 1000000000 + s.eclk.ns)] } }))
          ∧ (w.expected + w.half < p.tick → exec .pulse s = .next s)

/-- R114, R116: the end of a window without a good pulse: s advances and the next window opens; without a missed mark it counts as a
miss, which in ARMED clears the good-pulse count and in QUALIFIED counts toward the loss. A pulse that waits is kept. That s stops at
2^48 - 1 is the model's reading (log entry 21). Before a window's end,
or with none open in ARMED or QUALIFIED, it does not come. That WINDOW_END brought early changes nothing and brought late still
acts is the model's choice (log entries 3 and 4). -/
def Obligations.WindowEndTaken : Prop :=
  (∀ s : State,
    (s.anch.state ≠ .armed ∧ s.anch.state ≠ .qualified) ∨ (∀ w ∈ s.anch.window, s.osc.tick < w.expected + w.half + 1) →
      exec .windowEnd s = .next s)
  ∧ ∀ (w : AnchorWindow) (sec : Nat) (s : State), s.anch.window = some w → s.anch.s = some sec →
    w.expected + w.half + 1 ≤ s.osc.tick →
    let on : Anch :=
      { s.anch with
        s := some (min 281474976710655 (sec + 1))
        window := some { expected := w.expected + 25000000, half := windowTicks s, missed := false } }
    (s.anch.state = .armed ∨ s.anch.state = .qualified → w.missed = true → exec .windowEnd s = .next { s with anch := on })
      ∧ (s.anch.state = .armed → w.missed = false → exec .windowEnd s = .next { s with anch := { on with good := 0 } })
      ∧ (s.anch.state = .qualified → w.missed = false → s.anch.miss = 0 →
        exec .windowEnd s = .next { s with anch := { on with miss := 1 } })
      ∧ (s.anch.state = .qualified → w.missed = false → s.anch.miss = 1 →
        exec .windowEnd s =
          .next
            { s with
              anch := { on with state := .lost, window := none, miss := 0, good := 0 }
              net :=
                { s.net with warn := s.net.warn ++ [.raise .anchorLost (s.eclk.secs * 1000000000 + s.eclk.ns)] } })

/-! ## Captures -/

/-- R121, R124 to R131, R134: the edge of interest on the lowest-numbered line that has one. In CONFIG it is no capture; inside the line's
guard it is a follower of the linked entry or dropped; outside it is a capture, stored at the end of the queue, or, when the
queue is full, counted into the newest entry with a raise of OVERFLOW. While a step notice of an earlier tick is still to be
taken nothing is stamped (R134; that the edge then waits is log entry 11). -/
def Obligations.EdgeTaken : Prop :=
  (∀ s : State, (∃ n ∈ s.net.stepCapu, n.tick ≠ s.osc.tick) → exec .edgeOfInterest s = .next s)
  ∧ ∀ (l : CapLineNo) (e : Edge) (s : State), (∀ n ∈ s.net.stepCapu, n.tick = s.osc.tick) → OfInterest s l e →
    (∀ m < l, ∀ f, ¬OfInterest s m f) →
    let x := s.capu.lines[l]
    let line (x' : CapLine) : Vector CapLine 8 := s.capu.lines.set l x'
    let counted (f : CapEntry) : CapEntry := { f with followers := min 255 (f.followers + 1) }
    (s.agu.sync = .config →
        exec .edgeOfInterest s = .next { s with capu := { s.capu with lines := line { x with found := none } } })
      ∧ (s.agu.sync ≠ .config →
        (∀ g, x.guard = some g → s.osc.tick < g.closing →
            (g.link = none →
                exec .edgeOfInterest s = .next { s with capu := { s.capu with lines := line { x with found := none } } })
              ∧ ∀ before f after, s.capu.queue = before ++ f :: after → g.link = some before.length →
                exec .edgeOfInterest s =
                  .next
                    { s with capu := { lines := line { x with found := none }, queue := before ++ counted f :: after } })
          ∧ ((∀ g, x.guard = some g → g.closing ≤ s.osc.tick) →
            (s.capu.queue.length < 64 →
                exec .edgeOfInterest s =
                  .next
                    { s with
                      capu :=
                        { lines :=
                            line { x with found := none, latch := none, guard := guardOpened s l s.capu.queue.length }
                          queue := s.capu.queue ++ [entryStored s l e] } })
              ∧ ∀ before f, s.capu.queue = before ++ [f] → 63 ≤ before.length →
                exec .edgeOfInterest s =
                  .next
                    { s with
                      capu :=
                        { lines := line { x with found := none, guard := guardOpened s l before.length }
                          queue := before ++ [counted f] }
                      net := { s.net with warn := s.net.warn ++ [.raise .overflow (clockAtCapu s)] } }))

/-- R125, R132, R133, R134: the settle test and the settle limit of a queued entry, and the close of a guard. An entry settles when clock -
U exceeds timestamp + uncertainty with neither bound UNBOUNDED, and no step notice of an earlier tick is still to be taken (R134,
log entry 11); is released OVERDUE at its capture tick plus the settle limit,
and never leaves SETTLED or OVERDUE by either. That a
command brought early changes nothing and one brought late still acts is the model's choice (log entries 3 and 4). -/
def Obligations.SettledOverdueAndGuardClosed : Prop :=
  (∀ (i : Fin 64) (before after : List CapEntry) (e : CapEntry) (s : State), s.capu.queue = before ++ e :: after →
    before.length = i.val →
    let becomes (st : EntryState) : State :=
      { s with capu := { s.capu with queue := before ++ { e with state := st } :: after } }
    let holds :=
      (∀ n ∈ s.net.stepCapu, n.tick = s.osc.tick) ∧ ownU s < 4294967295 ∧ e.unc < 4294967295 ∧ e.ts + e.unc < (clockAtCapu s : Int) - ownU s
    let limit := e.tick + s.svc.image.settleMs * 25000
    (e.state = .pending → holds → exec (.settle i) s = .next (becomes .settled))
      ∧ (e.state = .pending → ¬holds → exec (.settle i) s = .next s)
      ∧ (e.state = .pending → limit ≤ s.osc.tick → exec (.overdue i) s = .next (becomes .overdue))
      ∧ (e.state = .pending → s.osc.tick < limit → exec (.overdue i) s = .next s)
      ∧ (e.state ≠ .pending → exec (.settle i) s = .next s ∧ exec (.overdue i) s = .next s))
  ∧ ∀ (l : CapLineNo) (g : LineGuard) (s : State), s.capu.lines[l].guard = some g →
    (g.closing ≤ s.osc.tick →
        exec (.guardClose l) s =
          .next { s with capu := { s.capu with lines := s.capu.lines.set l { s.capu.lines[l] with guard := none } } })
      ∧ (s.osc.tick < g.closing → exec (.guardClose l) s = .next s)

/-! ## The mark schedule -/

/-- R148 to R156: FIRE of an ARMED entry whose fire time the clock has reached. The mark is driven or suppressed by the live copy as
it stood; a staging is taken up, whatever its count; the next fire time is set and, while fires are left, carried past the clock;
the count runs down, reloads or completes; and a completed entry's chain is tried, its target armed and fired at once where the
clock has reached it, and so on. An entry that is not due does not fire, nor does any while a step notice of an earlier tick is
still to be taken (that such a FIRE changes nothing is log entries 3 and 11). A completed entry's fire time stands at the next one (log entry 22). -/
def Obligations.FireMade : Prop :=
  ∀ (n : EntryNo) (s : State),
    (ScheduleStanding s → (∀ x ∈ s.net.stepMsch, x.tick = s.osc.tick) → Due s s.msch.entries[n] →
        ∃ m', Fired s false n s.msch m' ∧ exec (.fire n) s = .next { s with msch := m' })
      ∧ ((∃ x ∈ s.net.stepMsch, x.tick ≠ s.osc.tick) ∨ ¬Due s s.msch.entries[n] → exec (.fire n) s = .next s)

/-- R153, R155, R156, R157: a cascade of chain arms and catch-up fires ends within the 16 entries; neither FIRE nor ARM leaves an
entry it has changed ARMED at or behind the clock; and after a step notice that is taken no entry at all is. -/
def Obligations.NothingDueIsLeft : Prop :=
  (∀ (ctx : FireContext) (late : Bool) (n : EntryNo) (m : Msch) (extra : Nat),
      m.fireEntry ctx (17 + extra) late n = m.fireEntry ctx 17 late n)
    ∧ (∀ (i : Instr) (s t : State), ((∃ n, i = .fire n) ∨ ∃ b, i = .arm b) → ScheduleStanding s → exec i s = .next t →
      ∀ k : EntryNo, t.msch.entries[k] ≠ s.msch.entries[k] → t.msch.entries[k].armed = true →
        clockAtMsch t < t.msch.entries[k].fire)
    ∧ ∀ (x : StepNotice) (rest : List StepNotice) (s t : State), ScheduleStanding s → s.net.stepMsch = x :: rest →
      x.tick ≠ s.osc.tick ∨ (∀ n : EntryNo, ¬Due s s.msch.entries[n]) →
      exec .stepNoticeAtMsch s = .next t → ∀ n : EntryNo, t.msch.entries[n].armed = true →
        clockAtMsch t < t.msch.entries[n].fire

/-- R148, R156, R157: a step notice at MSCH. On its boundary tick it is taken after that tick's fire tests, so it waits while an
entry is due at the boundary value (log entry 11). Taken, it lets MSCH read the stepped clock, and every ARMED entry that clock has
reached catches up in ascending entry number, each with its chain: it fires once, is marked LATE and skips what else has
passed. With none reached (a backward step) the table stays as it is. -/
def Obligations.StepNoticeAtMschTaken : Prop :=
  ∀ (x : StepNotice) (rest : List StepNotice) (s : State), s.net.stepMsch = x :: rest →
    let s' : State := { s with net := { s.net with stepMsch := rest } }
    (x.tick = s.osc.tick → (∃ n : EntryNo, Due s s.msch.entries[n]) → exec .stepNoticeAtMsch s = .next s)
      ∧ (x.tick ≠ s.osc.tick ∨ (∀ n : EntryNo, ¬Due s s.msch.entries[n]) →
        (ScheduleStanding s →
            ∃ m', CaughtUp s' (List.finRange 16) s.msch m' ∧ exec .stepNoticeAtMsch s = .next { s' with msch := m' })
          ∧ ((∀ n : EntryNo, ¬Due s' s.msch.entries[n]) → exec .stepNoticeAtMsch s = .next s'))

/-- R140, R150, R159, R175, R176, R182: a mark line goes low when its release tick is reached; CAPU reports whether the head is SETTLED
or OVERDUE and MSCH whether any completion flag is set; ATTN_N is low while an enabled condition holds and released otherwise, and
the mark pins follow their lines; while RESET_N is low ATTN_N is released and the mark pins are low. The model's readings: that a
report carries the standing at the time SVC takes it (log entry 25), that the release tick stays after the release (31), how
RESET_N low is held (36), and that MARK_RELEASE brought early changes nothing and brought late still acts (3 and 4). -/
def Obligations.MarksReleasedAndConditionsReported : Prop :=
  ∀ s : State,
    (∀ (l : MarkLineNo) (t : Tick), s.msch.lines[l].release = some t →
        (t ≤ s.osc.tick →
            exec (.markRelease l) s =
              .next
                { s with msch := { s.msch with lines := s.msch.lines.set l { s.msch.lines[l] with high := false } } })
          ∧ (s.osc.tick < t → exec (.markRelease l) s = .next s))
      ∧ (∃ b : Bool, exec .headStandingReport s = .next { s with svc := { s.svc with capCond := b } }
        ∧ (b = true ↔ ∃ e rest, s.capu.queue = e :: rest ∧ (e.state = .settled ∨ e.state = .overdue)))
      ∧ (∃ b : Bool, exec .scheduleReport s = .next { s with svc := { s.svc with schedCond := b } }
        ∧ (b = true ↔ ∃ n : EntryNo, s.msch.entries[n].completion = true))
      ∧ (let holds :=
          s.svc.maskCapture = true ∧ s.svc.capCond = true ∨ s.svc.maskWarnings = true ∧ s.svc.warningsChanged = true
            ∨ s.svc.maskSchedule = true ∧ s.svc.schedCond = true
        (attentionLine s = true ↔ holds) ∧ (holds → attnPin false s = .low) ∧ (¬holds → attnPin false s = .released))
      ∧ (∀ l : MarkLineNo, markPin false l s = (if s.msch.lines[l].high then .high else .low) ∧ markPin true l s = .low)
      ∧ attnPin true s = .released

/-! ## The service port -/

/-- R41, R122, R162, R163, R180: CONFIGURE: refused outside CONFIG, then for an index outside its table, then for a setting the part
does not have; else the image is built anew, every setting at its default but those the items name, clamped, the later of two
items for one setting taken, and the response carries it, item by item. The byte of an edge setting and the width of a path
uncertainty there, which R181 leaves open, are the model's choice (log entry 27). -/
def Obligations.ConfigureTaken : Prop :=
  (∀ (items : List CfgItem) (s : State), s.svc.request = none →
    (s.agu.sync ≠ .config → exec (.configure items) s = .next (answered 0x01 .wrongState [] s))
      ∧ (s.agu.sync = .config → (∃ i ∈ items, ItemOutside i) →
        exec (.configure items) s = .next (answered 0x01 .badIndex [] s))
      ∧ (s.agu.sync = .config → (∀ i ∈ items, ¬ItemOutside i) → (∃ i ∈ items, ItemUnknown i) →
        exec (.configure items) s = .next (answered 0x01 .unknownRequest [] s))
      ∧ (s.agu.sync = .config → (∀ i ∈ items, ¬ItemOutside i ∧ ¬ItemUnknown i) →
        exec (.configure items) s =
          .next
            (answered 0x01 .ok (itemBytes (imageItems (buildImage items)))
              { s with svc := { s.svc with image := buildImage items } })))
  ∧ (let attrs : ProfileAttrs := { pathDelay := 0, pathUnc := 100, aging := 5, driftLimit := 2000, accept := 1 }
    buildImage [] =
      { period := .ms500, ownTol := 5, stepThreshold := 50000, slewLimit := 200, settleMs := 2000, reviewS := 16
        windows := Vector.replicate 4 { first := 31, last := 0, attrs := attrs }, dflt := attrs
        lines := Vector.replicate 8 { enabled := false, edge := .rising, guardNs := 0 } })
  ∧ ∀ (items : List CfgItem) (i : CfgItem),
    let img := buildImage items
    let img' := buildImage (items ++ [i])
    let v := i.value.toNat
    let attr (a : ProfileAttrs) : ProfileAttrs :=
      if i.selector = 0x12 then { a with pathDelay := min 100000 v }
      else if i.selector = 0x13 then { a with pathUnc := min 100000 v }
      else if i.selector = 0x14 then { a with aging := max 1 (min 100 v) }
      else if i.selector = 0x15 then { a with driftLimit := max 100 (min 100000 v) }
      else { a with accept := min 3 v }
    (i.selector = 0x01 → img' = { img with period := ([Period.ms125, .ms250, .ms500, .ms1000, .ms2000][min 4 v]?).getD .ms2000 })
      ∧ (i.selector = 0x02 → img' = { img with ownTol := max 1 (min 100 v) })
      ∧ (i.selector = 0x03 → img' = { img with stepThreshold := max 1000 (min 1000000000 v) })
      ∧ (i.selector = 0x04 → img' = { img with slewLimit := max 10 (min 500 v) })
      ∧ (i.selector = 0x05 → img' = { img with settleMs := max 1 (min 10000 v) })
      ∧ (i.selector = 0x06 → img' = { img with reviewS := max 4 (min 64 v) })
      ∧ (∀ w : Fin 4, i.index.toNat = w.val →
        (i.selector = 0x10 → img' = { img with windows := img.windows.set w { img.windows[w] with first := min 31 v } })
          ∧ (i.selector = 0x11 → img' = { img with windows := img.windows.set w { img.windows[w] with last := min 31 v } })
          ∧ (0x12 ≤ i.selector.toNat → i.selector.toNat ≤ 0x16 →
            img' = { img with windows := img.windows.set w { img.windows[w] with attrs := attr img.windows[w].attrs } }))
      ∧ (i.index = 4 → 0x12 ≤ i.selector.toNat → i.selector.toNat ≤ 0x16 → img' = { img with dflt := attr img.dflt })
      ∧ ∀ l : CapLineNo, i.index.toNat = l.val →
        (i.selector = 0x20 → img' = { img with lines := img.lines.set l { img.lines[l] with enabled := decide (v ≠ 0) } })
          ∧ (i.selector = 0x21 →
            img' =
              { img with
                lines := img.lines.set l { img.lines[l] with edge := ([EdgeSetting.rising, .falling, .both][min 2 v]?).getD .both } })
          ∧ (i.selector = 0x22 → img' = { img with lines := img.lines.set l { img.lines[l] with guardNs := min 1000000 v } })

/-- R68, R110, R166: SETTIME while UNSET sets the base to u + 80 and posts the step v - the clock at receipt, and is refused
otherwise. ANCHOR outside CONFIG arms ANCH afresh from any anchor state, and is refused in CONFIG. -/
def Obligations.SettimeAndAnchorTaken : Prop :=
  ∀ (sec : BitVec 48) (ns u : BitVec 32) (s : State), s.svc.request = none →
    (s.agu.unset = true →
        let now : Int := (s.eclk.secs * 1000000000 + s.eclk.ns : Nat)
        let c : Int := (sec.toNat : Int) * 1000000000 + min 999999999 ns.toNat - now
        ∃ body, exec (.settime sec ns u) s =
          .next
            (answered 0x04 .ok body
              { s with
                agu := { s.agu with base := min 4294967295 (u.toNat + 80), baseTick := s.osc.tick, unset := false }
                net := { s.net with postSvc := s.net.postSvc ++ [.step c] } })
          ∧ (s.eclk.ns < 1000000000 →
            body = beBytes 6 s.eclk.secs ++ beBytes 4 s.eclk.ns
              ++ (if c < 0 then 1 else 0) :: (beBytes 6 (c.natAbs / 1000000000) ++ beBytes 4 (c.natAbs % 1000000000))))
      ∧ (s.agu.unset = false → exec (.settime sec ns u) s = .next (answered 0x04 .wrongState [] s))
      ∧ (s.agu.sync = .config → exec (.anchor sec u) s = .next (answered 0x05 .wrongState [] s))
      ∧ (s.agu.sync ≠ .config →
        exec (.anchor sec u) s =
          .next
            (answered 0x05 .ok []
              { s with
                anch :=
                  { s.anch with
                    state := .armed
                    s := some sec.toNat
                    uRef := min 1000000 u.toNat
                    alpha := none
                    good := 0
                    miss := 0
                    window := none
                    lastGood := none } }))

/-- R15, R38, R60, R85, R99, R107, R119, R127, R136, R139, R141, R159, R167, R172, R173, R180, R181: DATE, PEEK, STATUS and PEER answer
and change nothing else. DATE's body is the clock, U, the sync state, the flags and the oscillator; PEEK's the count and the head
item by item, 34 bytes; STATUS's and PEER's the items the chapters list, in their order. Where R181 leaves a coding open the bytes
are the model's choice (log entries 14 and 27). -/
def Obligations.QueriesAnswered : Prop :=
  ∀ s : State, s.svc.request = none →
    (s.eclk.ns < 1000000000 →
        exec .date s =
          .next
            (answered 0x10 .ok
              (beBytes 6 s.eclk.secs ++ beBytes 4 s.eclk.ns ++ beBytes 4 (ownU s)
                ++ [match s.agu.sync with
                    | .config => 0
                    | .listen => 1
                    | .lone => 2
                    | .agreed => 3
                    | .holdover => 4
                  , BitVec.ofNat 8
                      ((if s.agu.unset then 8 else 0) + (if s.agu.humble then 4 else 0) + (if s.span.mutedFlag then 2 else 0)
                        + (if s.anch.state = .qualified then 1 else 0))
                  , if s.osc.selection = .primary then 0 else 1])
              s))
      ∧ (s.capu.queue = [] → exec .peek s = .next (answered 0x11 .empty [0] s))
      ∧ (∀ e rest, s.capu.queue = e :: rest →
        exec .peek s = .next (answered 0x11 .ok (BitVec.ofNat 8 (rest.length + 1) :: itemBytes (captureItems e)) s)
          ∧ (itemBytes (captureItems e)).length = 34)
      ∧ exec .status s = .next (answered 0x30 .ok (itemBytes (statusItems s)) s)
      ∧ ∀ n : Byte,
        (31 < n.toNat → exec (.peer n) s = .next (answered 0x31 .badIndex [] s))
          ∧ (n.toNat = s.svc.station.val → exec (.peer n) s = .next (answered 0x31 .badIndex [] s))
          ∧ ∀ p : Station, p ≠ s.svc.station → n.toNat = p.val →
            exec (.peer n) s = .next (answered 0x31 .ok (itemBytes (peerItems s p)) s)

/-- R126, R137, R138: TAKE gives EMPTY, NOT_SETTLED with the count, or the head, which leaves: every guard linked to it links to
none, every other link follows its entry, and leaving the queue empty sends the removal of OVERFLOW. LABEL arms a line's
latch. -/
def Obligations.TakeAndLabel : Prop :=
  ∀ s : State, s.svc.request = none →
    (s.capu.queue = [] → exec .take s = .next (answered 0x12 .empty [0] s))
      ∧ (∀ e rest, s.capu.queue = e :: rest → e.state = .pending →
        exec .take s = .next (answered 0x12 .notSettled [BitVec.ofNat 8 (rest.length + 1)] s))
      ∧ (∀ e rest, s.capu.queue = e :: rest → e.state ≠ .pending →
        ∃ t, exec .take s = .next (answered 0x12 .ok (BitVec.ofNat 8 rest.length :: itemBytes (captureItems e)) t)
          ∧ t =
            { s with
              capu := { lines := t.capu.lines, queue := rest }
              net := { s.net with warn := s.net.warn ++ if rest = [] then [.remove .overflow] else [] } }
          ∧ ∀ l : CapLineNo,
            t.capu.lines[l] =
              { s.capu.lines[l] with
                guard :=
                  s.capu.lines[l].guard.map fun g =>
                    { g with link := g.link.bind fun i => if i = 0 then none else some (i - 1) } })
      ∧ ∀ (line : Byte) (value : BitVec 16),
        (7 < line.toNat → exec (.label line value) s = .next (answered 0x13 .badIndex [] s))
          ∧ ∀ l : CapLineNo, line.toNat = l.val →
            exec (.label line value) s =
              .next
                (answered 0x13 .ok []
                  { s with
                    capu :=
                      { s.capu with lines := s.capu.lines.set l { s.capu.lines[l] with latch := some value } } })

/-- R144: STAGE, refused for an index outside its table, then in CONFIG; else the staging copy is replaced as a whole, clamped. That
the index is looked at first in CONFIG is the model's reading of the rule's order (log entry 26). -/
def Obligations.StageTaken : Prop :=
  ∀ (a : StageArgs) (s : State), s.svc.request = none →
    ((15 < a.entry.toNat ∨ (3 < a.output.toNat ∧ a.output ≠ 0xFF) ∨ (15 < a.chain.toNat ∧ a.chain ≠ 0xFF)) →
        exec (.stage a) s = .next (answered 0x20 .badIndex [] s))
      ∧ ∀ (n : EntryNo) (output : Option MarkLineNo) (chain : Option EntryNo), a.entry.toNat = n.val →
        (output = none ∧ a.output = 0xFF ∨ ∃ l, output = some l ∧ a.output.toNat = l.val) →
        (chain = none ∧ a.chain = 0xFF ∨ ∃ g, chain = some g ∧ a.chain.toNat = g.val) →
          (s.agu.sync = .config → exec (.stage a) s = .next (answered 0x20 .wrongState [] s))
            ∧ (s.agu.sync ≠ .config →
              exec (.stage a) s =
                .next
                  (answered 0x20 .ok []
                    { s with
                      msch :=
                        { s.msch with
                          entries :=
                            s.msch.entries.set n
                              { s.msch.entries[n] with
                                stagingFire := a.fire.map fun f => f.1.toNat * 1000000000 + min 999999999 f.2.toNat
                                staging :=
                                  { mode := if a.mode = 0 then .single else if a.mode = 1 then .finite else .cyclic
                                    period := max 1000 (min 1000000000000 a.period.toNat)
                                    count := max 1 a.count.toNat
                                    reload := max 1 a.reload.toNat
                                    output := output
                                    width := (max 40 (min 1000000 a.width.toNat) + 39) / 40
                                    guard :=
                                      if a.guard = 0 then .none
                                      else if a.guard = 1 then .agreedOnly
                                      else .bound (min 4294967294 a.bound.toNat)
                                    chain := chain
                                    report := a.report }
                                staged := true } } }))

/-- R143, R145, R146, R147, R156, R181: ARM, STOP and ENTRY of an entry: what refuses ARM; the entry armed from its staging, and where
the clock has reached its fire time fired at once, LATE, whatever its count, with its chain; STOP without completion; and ENTRY,
which answers every item of the entry and clears the completion flag after reading it. That a bad index is looked at first, in
CONFIG too, is the model's reading for ARM and STOP (log entry 26), and the coding of an absent bound is its choice (27). -/
def Obligations.ArmStopAndEntryTaken : Prop :=
  (∀ (b : Byte) (s : State), s.svc.request = none → 15 < b.toNat →
    exec (.arm b) s = .next (answered 0x21 .badIndex [] s) ∧ exec (.stop b) s = .next (answered 0x22 .badIndex [] s)
      ∧ exec (.entry b) s = .next (answered 0x23 .badIndex [] s))
  ∧ ∀ (b : Byte) (n : EntryNo) (s : State), s.svc.request = none → b.toNat = n.val → ScheduleStanding s →
    let e := s.msch.entries[n]
    let clock := clockAtMsch s
    let put (e' : SchedEntry) : State := { s with msch := { s.msch with entries := s.msch.entries.set n e' } }
    exec (.entry b) s = .next (answered 0x23 .ok (itemBytes (entryItems e)) (put { e with completion := false }))
      ∧ (s.agu.sync = .config →
        exec (.arm b) s = .next (answered 0x21 .wrongState [] s) ∧ exec (.stop b) s = .next (answered 0x22 .wrongState [] s))
      ∧ (s.agu.sync ≠ .config →
        exec (.stop b) s = .next (answered 0x22 .ok [] (put { e with armed := false }))
          ∧ (e.armed = true → exec (.arm b) s = .next (answered 0x21 .busy [] s))
          ∧ (e.armed = false → e.staged = false ∨ e.stagingFire = none →
            exec (.arm b) s = .next (answered 0x21 .wrongState [] s))
          ∧ ∀ t, e.armed = false → e.staged = true → e.stagingFire = some t →
            (clock < t → exec (.arm b) s = .next (answered 0x21 .ok [] (put (armedAt t e))))
              ∧ (t ≤ clock →
                ∃ m',
                  Fired s true n { s.msch with entries := s.msch.entries.set n (armedAt t e) } m'
                    ∧ exec (.arm b) s = .next (answered 0x21 .ok [] { s with msch := m' })))

/-- R102, R106, R174, R175, R180, R181: WARNINGS answers the whole list, 16 bytes a warning, kind, station, raise time and value, and
clears "warnings changed"; ATTENTION
replaces the mask and answers it with the conditions that hold. -/
def Obligations.WarningsAndAttentionAnswered : Prop :=
  ∀ s : State, s.svc.request = none →
    (exec .warnings s =
        .next
          (answered 0x32 .ok (BitVec.ofNat 8 s.dmon.warnings.length :: s.dmon.warnings.flatMap fun w => itemBytes (warningItems w))
            { s with svc := { s.svc with warningsChanged := false } })
      ∧ ∀ w : Warning, (itemBytes (warningItems w)).length = 16)
      ∧ ∀ enables : Byte,
        let bit (n : Nat) : Bool := enables.toNat / 2 ^ n % 2 = 1
        let one (b : Bool) (v : Nat) : Nat := if b then v else 0
        exec (.attention enables) s =
          .next
            (answered 0x33 .ok
              [BitVec.ofNat 8 (enables.toNat % 8)
              , BitVec.ofNat 8 (one s.svc.capCond 1 + one s.svc.warningsChanged 2 + one s.svc.schedCond 4)]
              { s with svc := { s.svc with maskCapture := bit 0, maskWarnings := bit 1, maskSchedule := bit 2 } })

/-- R167 to R171, R180, R182: a request whose transaction ends while another is in progress is discarded, whatever it is, and sets the
overrun mark; an ill-formed one with none in progress is answered UNKNOWN_REQUEST; the full response goes into the buffer with
the mark as it stands and ends the request; while the buffer shows NOT_READY one byte of it is shifted out and then 0, else, for
every other status, header and body and then 0; and SVC_MISO carries those bytes, most significant bit first, while SVC_CS_N is
low, and is released otherwise. That a request is taken and its response made at one moment is the model's reading (log entry
28); how chip select is given, and that a reset in the middle of a transaction does not show at the pin, are its choices (38). -/
def Obligations.RequestsOverrunUnknownAndPlaced : Prop :=
  ∀ s : State,
    (∀ code, s.svc.request = some code →
        ∀ c : Instr, (encodeRequest c).isSome ∨ c = .overrun ∨ (∃ b, b ≠ 0x00 ∧ c = .unknownRequest b) →
          exec c s = .next { s with svc := { s.svc with buffer := { s.svc.buffer with overrun := true } } })
      ∧ (s.svc.request = none → ∀ code, code ≠ 0x00 →
        exec (.unknownRequest code) s = .next (answered code .unknownRequest [] s))
      ∧ (∀ code r, s.svc.request = some code → s.svc.response = some r →
        exec .fullResponsePlaced s =
          .next
            { s with
              svc :=
                { s.svc with
                  buffer := { status := r.status, code := code, overrun := s.svc.buffer.overrun, body := r.body }
                  request := none
                  response := none } })
      ∧ (∀ n : Nat, shiftedOut s n = (bufferBytes s.svc.buffer ++ List.replicate n 0x00).take n)
      ∧ ∀ k : Nat,
        misoPin false k s = .released
          ∧ ∀ byte, (shiftedOut s (k / 8 + 1))[k / 8]? = some byte →
            misoPin true k s = if byte.getLsbD (7 - k % 8) then .high else .low

end
end

