-- ==== Sys2Proof/Laws/State.lean ====
section
/-! SUPPORT. What each named update of the state leaves and sets: one lemma for each field of each update, all true by `rfl`. -/

namespace Sys2Proof.Machine

/-! ### `onEclk` -/

@[simp] theorem State.onEclk_osc (f : Eclk → Eclk) (s : State) : (s.onEclk f).osc = s.osc := rfl
@[simp] theorem State.onEclk_eclk (f : Eclk → Eclk) (s : State) : (s.onEclk f).eclk = f s.eclk := rfl
@[simp] theorem State.onEclk_span (f : Eclk → Eclk) (s : State) : (s.onEclk f).span = s.span := rfl
@[simp] theorem State.onEclk_ptab (f : Eclk → Eclk) (s : State) : (s.onEclk f).ptab = s.ptab := rfl
@[simp] theorem State.onEclk_agu (f : Eclk → Eclk) (s : State) : (s.onEclk f).agu = s.agu := rfl
@[simp] theorem State.onEclk_dmon (f : Eclk → Eclk) (s : State) : (s.onEclk f).dmon = s.dmon := rfl
@[simp] theorem State.onEclk_anch (f : Eclk → Eclk) (s : State) : (s.onEclk f).anch = s.anch := rfl
@[simp] theorem State.onEclk_capu (f : Eclk → Eclk) (s : State) : (s.onEclk f).capu = s.capu := rfl
@[simp] theorem State.onEclk_msch (f : Eclk → Eclk) (s : State) : (s.onEclk f).msch = s.msch := rfl
@[simp] theorem State.onEclk_svc (f : Eclk → Eclk) (s : State) : (s.onEclk f).svc = s.svc := rfl
@[simp] theorem State.onEclk_net (f : Eclk → Eclk) (s : State) : (s.onEclk f).net = s.net := rfl
@[simp] theorem State.onEclk_freeDraws (f : Eclk → Eclk) (s : State) : (s.onEclk f).freeDraws = s.freeDraws := rfl
@[simp] theorem State.onEclk_pending (f : Eclk → Eclk) (s : State) : (s.onEclk f).pending = s.pending := rfl

/-! ### `onSpan` -/

@[simp] theorem State.onSpan_osc (f : Span → Span) (s : State) : (s.onSpan f).osc = s.osc := rfl
@[simp] theorem State.onSpan_eclk (f : Span → Span) (s : State) : (s.onSpan f).eclk = s.eclk := rfl
@[simp] theorem State.onSpan_span (f : Span → Span) (s : State) : (s.onSpan f).span = f s.span := rfl
@[simp] theorem State.onSpan_ptab (f : Span → Span) (s : State) : (s.onSpan f).ptab = s.ptab := rfl
@[simp] theorem State.onSpan_agu (f : Span → Span) (s : State) : (s.onSpan f).agu = s.agu := rfl
@[simp] theorem State.onSpan_dmon (f : Span → Span) (s : State) : (s.onSpan f).dmon = s.dmon := rfl
@[simp] theorem State.onSpan_anch (f : Span → Span) (s : State) : (s.onSpan f).anch = s.anch := rfl
@[simp] theorem State.onSpan_capu (f : Span → Span) (s : State) : (s.onSpan f).capu = s.capu := rfl
@[simp] theorem State.onSpan_msch (f : Span → Span) (s : State) : (s.onSpan f).msch = s.msch := rfl
@[simp] theorem State.onSpan_svc (f : Span → Span) (s : State) : (s.onSpan f).svc = s.svc := rfl
@[simp] theorem State.onSpan_net (f : Span → Span) (s : State) : (s.onSpan f).net = s.net := rfl
@[simp] theorem State.onSpan_freeDraws (f : Span → Span) (s : State) : (s.onSpan f).freeDraws = s.freeDraws := rfl
@[simp] theorem State.onSpan_pending (f : Span → Span) (s : State) : (s.onSpan f).pending = s.pending := rfl

/-! ### `onAgu` -/

@[simp] theorem State.onAgu_osc (f : Agu → Agu) (s : State) : (s.onAgu f).osc = s.osc := rfl
@[simp] theorem State.onAgu_eclk (f : Agu → Agu) (s : State) : (s.onAgu f).eclk = s.eclk := rfl
@[simp] theorem State.onAgu_span (f : Agu → Agu) (s : State) : (s.onAgu f).span = s.span := rfl
@[simp] theorem State.onAgu_ptab (f : Agu → Agu) (s : State) : (s.onAgu f).ptab = s.ptab := rfl
@[simp] theorem State.onAgu_agu (f : Agu → Agu) (s : State) : (s.onAgu f).agu = f s.agu := rfl
@[simp] theorem State.onAgu_dmon (f : Agu → Agu) (s : State) : (s.onAgu f).dmon = s.dmon := rfl
@[simp] theorem State.onAgu_anch (f : Agu → Agu) (s : State) : (s.onAgu f).anch = s.anch := rfl
@[simp] theorem State.onAgu_capu (f : Agu → Agu) (s : State) : (s.onAgu f).capu = s.capu := rfl
@[simp] theorem State.onAgu_msch (f : Agu → Agu) (s : State) : (s.onAgu f).msch = s.msch := rfl
@[simp] theorem State.onAgu_svc (f : Agu → Agu) (s : State) : (s.onAgu f).svc = s.svc := rfl
@[simp] theorem State.onAgu_net (f : Agu → Agu) (s : State) : (s.onAgu f).net = s.net := rfl
@[simp] theorem State.onAgu_freeDraws (f : Agu → Agu) (s : State) : (s.onAgu f).freeDraws = s.freeDraws := rfl
@[simp] theorem State.onAgu_pending (f : Agu → Agu) (s : State) : (s.onAgu f).pending = s.pending := rfl

/-! ### `onDmon` -/

@[simp] theorem State.onDmon_osc (f : Dmon → Dmon) (s : State) : (s.onDmon f).osc = s.osc := rfl
@[simp] theorem State.onDmon_eclk (f : Dmon → Dmon) (s : State) : (s.onDmon f).eclk = s.eclk := rfl
@[simp] theorem State.onDmon_span (f : Dmon → Dmon) (s : State) : (s.onDmon f).span = s.span := rfl
@[simp] theorem State.onDmon_ptab (f : Dmon → Dmon) (s : State) : (s.onDmon f).ptab = s.ptab := rfl
@[simp] theorem State.onDmon_agu (f : Dmon → Dmon) (s : State) : (s.onDmon f).agu = s.agu := rfl
@[simp] theorem State.onDmon_dmon (f : Dmon → Dmon) (s : State) : (s.onDmon f).dmon = f s.dmon := rfl
@[simp] theorem State.onDmon_anch (f : Dmon → Dmon) (s : State) : (s.onDmon f).anch = s.anch := rfl
@[simp] theorem State.onDmon_capu (f : Dmon → Dmon) (s : State) : (s.onDmon f).capu = s.capu := rfl
@[simp] theorem State.onDmon_msch (f : Dmon → Dmon) (s : State) : (s.onDmon f).msch = s.msch := rfl
@[simp] theorem State.onDmon_svc (f : Dmon → Dmon) (s : State) : (s.onDmon f).svc = s.svc := rfl
@[simp] theorem State.onDmon_net (f : Dmon → Dmon) (s : State) : (s.onDmon f).net = s.net := rfl
@[simp] theorem State.onDmon_freeDraws (f : Dmon → Dmon) (s : State) : (s.onDmon f).freeDraws = s.freeDraws := rfl
@[simp] theorem State.onDmon_pending (f : Dmon → Dmon) (s : State) : (s.onDmon f).pending = s.pending := rfl

/-! ### `onAnch` -/

@[simp] theorem State.onAnch_osc (f : Anch → Anch) (s : State) : (s.onAnch f).osc = s.osc := rfl
@[simp] theorem State.onAnch_eclk (f : Anch → Anch) (s : State) : (s.onAnch f).eclk = s.eclk := rfl
@[simp] theorem State.onAnch_span (f : Anch → Anch) (s : State) : (s.onAnch f).span = s.span := rfl
@[simp] theorem State.onAnch_ptab (f : Anch → Anch) (s : State) : (s.onAnch f).ptab = s.ptab := rfl
@[simp] theorem State.onAnch_agu (f : Anch → Anch) (s : State) : (s.onAnch f).agu = s.agu := rfl
@[simp] theorem State.onAnch_dmon (f : Anch → Anch) (s : State) : (s.onAnch f).dmon = s.dmon := rfl
@[simp] theorem State.onAnch_anch (f : Anch → Anch) (s : State) : (s.onAnch f).anch = f s.anch := rfl
@[simp] theorem State.onAnch_capu (f : Anch → Anch) (s : State) : (s.onAnch f).capu = s.capu := rfl
@[simp] theorem State.onAnch_msch (f : Anch → Anch) (s : State) : (s.onAnch f).msch = s.msch := rfl
@[simp] theorem State.onAnch_svc (f : Anch → Anch) (s : State) : (s.onAnch f).svc = s.svc := rfl
@[simp] theorem State.onAnch_net (f : Anch → Anch) (s : State) : (s.onAnch f).net = s.net := rfl
@[simp] theorem State.onAnch_freeDraws (f : Anch → Anch) (s : State) : (s.onAnch f).freeDraws = s.freeDraws := rfl
@[simp] theorem State.onAnch_pending (f : Anch → Anch) (s : State) : (s.onAnch f).pending = s.pending := rfl

/-! ### `onCapu` -/

@[simp] theorem State.onCapu_osc (f : Capu → Capu) (s : State) : (s.onCapu f).osc = s.osc := rfl
@[simp] theorem State.onCapu_eclk (f : Capu → Capu) (s : State) : (s.onCapu f).eclk = s.eclk := rfl
@[simp] theorem State.onCapu_span (f : Capu → Capu) (s : State) : (s.onCapu f).span = s.span := rfl
@[simp] theorem State.onCapu_ptab (f : Capu → Capu) (s : State) : (s.onCapu f).ptab = s.ptab := rfl
@[simp] theorem State.onCapu_agu (f : Capu → Capu) (s : State) : (s.onCapu f).agu = s.agu := rfl
@[simp] theorem State.onCapu_dmon (f : Capu → Capu) (s : State) : (s.onCapu f).dmon = s.dmon := rfl
@[simp] theorem State.onCapu_anch (f : Capu → Capu) (s : State) : (s.onCapu f).anch = s.anch := rfl
@[simp] theorem State.onCapu_capu (f : Capu → Capu) (s : State) : (s.onCapu f).capu = f s.capu := rfl
@[simp] theorem State.onCapu_msch (f : Capu → Capu) (s : State) : (s.onCapu f).msch = s.msch := rfl
@[simp] theorem State.onCapu_svc (f : Capu → Capu) (s : State) : (s.onCapu f).svc = s.svc := rfl
@[simp] theorem State.onCapu_net (f : Capu → Capu) (s : State) : (s.onCapu f).net = s.net := rfl
@[simp] theorem State.onCapu_freeDraws (f : Capu → Capu) (s : State) : (s.onCapu f).freeDraws = s.freeDraws := rfl
@[simp] theorem State.onCapu_pending (f : Capu → Capu) (s : State) : (s.onCapu f).pending = s.pending := rfl

/-! ### `onMsch` -/

@[simp] theorem State.onMsch_osc (f : Msch → Msch) (s : State) : (s.onMsch f).osc = s.osc := rfl
@[simp] theorem State.onMsch_eclk (f : Msch → Msch) (s : State) : (s.onMsch f).eclk = s.eclk := rfl
@[simp] theorem State.onMsch_span (f : Msch → Msch) (s : State) : (s.onMsch f).span = s.span := rfl
@[simp] theorem State.onMsch_ptab (f : Msch → Msch) (s : State) : (s.onMsch f).ptab = s.ptab := rfl
@[simp] theorem State.onMsch_agu (f : Msch → Msch) (s : State) : (s.onMsch f).agu = s.agu := rfl
@[simp] theorem State.onMsch_dmon (f : Msch → Msch) (s : State) : (s.onMsch f).dmon = s.dmon := rfl
@[simp] theorem State.onMsch_anch (f : Msch → Msch) (s : State) : (s.onMsch f).anch = s.anch := rfl
@[simp] theorem State.onMsch_capu (f : Msch → Msch) (s : State) : (s.onMsch f).capu = s.capu := rfl
@[simp] theorem State.onMsch_msch (f : Msch → Msch) (s : State) : (s.onMsch f).msch = f s.msch := rfl
@[simp] theorem State.onMsch_svc (f : Msch → Msch) (s : State) : (s.onMsch f).svc = s.svc := rfl
@[simp] theorem State.onMsch_net (f : Msch → Msch) (s : State) : (s.onMsch f).net = s.net := rfl
@[simp] theorem State.onMsch_freeDraws (f : Msch → Msch) (s : State) : (s.onMsch f).freeDraws = s.freeDraws := rfl
@[simp] theorem State.onMsch_pending (f : Msch → Msch) (s : State) : (s.onMsch f).pending = s.pending := rfl

/-! ### `onSvc` -/

@[simp] theorem State.onSvc_osc (f : Svc → Svc) (s : State) : (s.onSvc f).osc = s.osc := rfl
@[simp] theorem State.onSvc_eclk (f : Svc → Svc) (s : State) : (s.onSvc f).eclk = s.eclk := rfl
@[simp] theorem State.onSvc_span (f : Svc → Svc) (s : State) : (s.onSvc f).span = s.span := rfl
@[simp] theorem State.onSvc_ptab (f : Svc → Svc) (s : State) : (s.onSvc f).ptab = s.ptab := rfl
@[simp] theorem State.onSvc_agu (f : Svc → Svc) (s : State) : (s.onSvc f).agu = s.agu := rfl
@[simp] theorem State.onSvc_dmon (f : Svc → Svc) (s : State) : (s.onSvc f).dmon = s.dmon := rfl
@[simp] theorem State.onSvc_anch (f : Svc → Svc) (s : State) : (s.onSvc f).anch = s.anch := rfl
@[simp] theorem State.onSvc_capu (f : Svc → Svc) (s : State) : (s.onSvc f).capu = s.capu := rfl
@[simp] theorem State.onSvc_msch (f : Svc → Svc) (s : State) : (s.onSvc f).msch = s.msch := rfl
@[simp] theorem State.onSvc_svc (f : Svc → Svc) (s : State) : (s.onSvc f).svc = f s.svc := rfl
@[simp] theorem State.onSvc_net (f : Svc → Svc) (s : State) : (s.onSvc f).net = s.net := rfl
@[simp] theorem State.onSvc_freeDraws (f : Svc → Svc) (s : State) : (s.onSvc f).freeDraws = s.freeDraws := rfl
@[simp] theorem State.onSvc_pending (f : Svc → Svc) (s : State) : (s.onSvc f).pending = s.pending := rfl

/-! ### `onNet` -/

@[simp] theorem State.onNet_osc (f : InFlight → InFlight) (s : State) : (s.onNet f).osc = s.osc := rfl
@[simp] theorem State.onNet_eclk (f : InFlight → InFlight) (s : State) : (s.onNet f).eclk = s.eclk := rfl
@[simp] theorem State.onNet_span (f : InFlight → InFlight) (s : State) : (s.onNet f).span = s.span := rfl
@[simp] theorem State.onNet_ptab (f : InFlight → InFlight) (s : State) : (s.onNet f).ptab = s.ptab := rfl
@[simp] theorem State.onNet_agu (f : InFlight → InFlight) (s : State) : (s.onNet f).agu = s.agu := rfl
@[simp] theorem State.onNet_dmon (f : InFlight → InFlight) (s : State) : (s.onNet f).dmon = s.dmon := rfl
@[simp] theorem State.onNet_anch (f : InFlight → InFlight) (s : State) : (s.onNet f).anch = s.anch := rfl
@[simp] theorem State.onNet_capu (f : InFlight → InFlight) (s : State) : (s.onNet f).capu = s.capu := rfl
@[simp] theorem State.onNet_msch (f : InFlight → InFlight) (s : State) : (s.onNet f).msch = s.msch := rfl
@[simp] theorem State.onNet_svc (f : InFlight → InFlight) (s : State) : (s.onNet f).svc = s.svc := rfl
@[simp] theorem State.onNet_net (f : InFlight → InFlight) (s : State) : (s.onNet f).net = f s.net := rfl
@[simp] theorem State.onNet_freeDraws (f : InFlight → InFlight) (s : State) : (s.onNet f).freeDraws = s.freeDraws := rfl
@[simp] theorem State.onNet_pending (f : InFlight → InFlight) (s : State) : (s.onNet f).pending = s.pending := rfl

/-! ### `setPeer` -/

@[simp] theorem State.setPeer_osc (p : Station) (r : PeerRecord) (s : State) : (s.setPeer p r).osc = s.osc := rfl
@[simp] theorem State.setPeer_eclk (p : Station) (r : PeerRecord) (s : State) : (s.setPeer p r).eclk = s.eclk := rfl
@[simp] theorem State.setPeer_span (p : Station) (r : PeerRecord) (s : State) : (s.setPeer p r).span = s.span := rfl
@[simp] theorem State.setPeer_ptab (p : Station) (r : PeerRecord) (s : State) : (s.setPeer p r).ptab = s.ptab.set p r := rfl
@[simp] theorem State.setPeer_agu (p : Station) (r : PeerRecord) (s : State) : (s.setPeer p r).agu = s.agu := rfl
@[simp] theorem State.setPeer_dmon (p : Station) (r : PeerRecord) (s : State) : (s.setPeer p r).dmon = s.dmon := rfl
@[simp] theorem State.setPeer_anch (p : Station) (r : PeerRecord) (s : State) : (s.setPeer p r).anch = s.anch := rfl
@[simp] theorem State.setPeer_capu (p : Station) (r : PeerRecord) (s : State) : (s.setPeer p r).capu = s.capu := rfl
@[simp] theorem State.setPeer_msch (p : Station) (r : PeerRecord) (s : State) : (s.setPeer p r).msch = s.msch := rfl
@[simp] theorem State.setPeer_svc (p : Station) (r : PeerRecord) (s : State) : (s.setPeer p r).svc = s.svc := rfl
@[simp] theorem State.setPeer_net (p : Station) (r : PeerRecord) (s : State) : (s.setPeer p r).net = s.net := rfl
@[simp] theorem State.setPeer_freeDraws (p : Station) (r : PeerRecord) (s : State) : (s.setPeer p r).freeDraws = s.freeDraws := rfl
@[simp] theorem State.setPeer_pending (p : Station) (r : PeerRecord) (s : State) : (s.setPeer p r).pending = s.pending := rfl

/-! ### `setDrift` -/

@[simp] theorem State.setDrift_osc (p : Station) (r : DriftRecord) (s : State) : (s.setDrift p r).osc = s.osc := rfl
@[simp] theorem State.setDrift_eclk (p : Station) (r : DriftRecord) (s : State) : (s.setDrift p r).eclk = s.eclk := rfl
@[simp] theorem State.setDrift_span (p : Station) (r : DriftRecord) (s : State) : (s.setDrift p r).span = s.span := rfl
@[simp] theorem State.setDrift_ptab (p : Station) (r : DriftRecord) (s : State) : (s.setDrift p r).ptab = s.ptab := rfl
@[simp] theorem State.setDrift_agu (p : Station) (r : DriftRecord) (s : State) : (s.setDrift p r).agu = s.agu := rfl
@[simp] theorem State.setDrift_dmon (p : Station) (r : DriftRecord) (s : State) : (s.setDrift p r).dmon = { s.dmon with drift := s.dmon.drift.set p r } := rfl
@[simp] theorem State.setDrift_anch (p : Station) (r : DriftRecord) (s : State) : (s.setDrift p r).anch = s.anch := rfl
@[simp] theorem State.setDrift_capu (p : Station) (r : DriftRecord) (s : State) : (s.setDrift p r).capu = s.capu := rfl
@[simp] theorem State.setDrift_msch (p : Station) (r : DriftRecord) (s : State) : (s.setDrift p r).msch = s.msch := rfl
@[simp] theorem State.setDrift_svc (p : Station) (r : DriftRecord) (s : State) : (s.setDrift p r).svc = s.svc := rfl
@[simp] theorem State.setDrift_net (p : Station) (r : DriftRecord) (s : State) : (s.setDrift p r).net = s.net := rfl
@[simp] theorem State.setDrift_freeDraws (p : Station) (r : DriftRecord) (s : State) : (s.setDrift p r).freeDraws = s.freeDraws := rfl
@[simp] theorem State.setDrift_pending (p : Station) (r : DriftRecord) (s : State) : (s.setDrift p r).pending = s.pending := rfl

/-! ### `sendStep` -/

@[simp] theorem State.sendStep_osc (c : Int) (s : State) : (s.sendStep c).osc = s.osc := rfl
@[simp] theorem State.sendStep_eclk (c : Int) (s : State) : (s.sendStep c).eclk = s.eclk := rfl
@[simp] theorem State.sendStep_span (c : Int) (s : State) : (s.sendStep c).span = s.span := rfl
@[simp] theorem State.sendStep_ptab (c : Int) (s : State) : (s.sendStep c).ptab = s.ptab := rfl
@[simp] theorem State.sendStep_agu (c : Int) (s : State) : (s.sendStep c).agu = s.agu := rfl
@[simp] theorem State.sendStep_dmon (c : Int) (s : State) : (s.sendStep c).dmon = s.dmon := rfl
@[simp] theorem State.sendStep_anch (c : Int) (s : State) : (s.sendStep c).anch = s.anch := rfl
@[simp] theorem State.sendStep_capu (c : Int) (s : State) : (s.sendStep c).capu = s.capu := rfl
@[simp] theorem State.sendStep_msch (c : Int) (s : State) : (s.sendStep c).msch = s.msch := rfl
@[simp] theorem State.sendStep_svc (c : Int) (s : State) : (s.sendStep c).svc = s.svc := rfl
@[simp] theorem State.sendStep_net (c : Int) (s : State) : (s.sendStep c).net = { s.net with
      stepAgu := s.net.stepAgu ++ [c], stepDmon := s.net.stepDmon ++ [c], stepAnch := s.net.stepAnch ++ [c]
      stepCapu := s.net.stepCapu ++ [{ tick := s.osc.tick, c := c }]
      stepMsch := s.net.stepMsch ++ [{ tick := s.osc.tick, c := c }] } := rfl
@[simp] theorem State.sendStep_freeDraws (c : Int) (s : State) : (s.sendStep c).freeDraws = s.freeDraws := rfl
@[simp] theorem State.sendStep_pending (c : Int) (s : State) : (s.sendStep c).pending = s.pending := rfl

/-! ### `sendDmon` -/

@[simp] theorem State.sendDmon_osc (ns : List PeerNotice) (s : State) : (s.sendDmon ns).osc = s.osc := rfl
@[simp] theorem State.sendDmon_eclk (ns : List PeerNotice) (s : State) : (s.sendDmon ns).eclk = s.eclk := rfl
@[simp] theorem State.sendDmon_span (ns : List PeerNotice) (s : State) : (s.sendDmon ns).span = s.span := rfl
@[simp] theorem State.sendDmon_ptab (ns : List PeerNotice) (s : State) : (s.sendDmon ns).ptab = s.ptab := rfl
@[simp] theorem State.sendDmon_agu (ns : List PeerNotice) (s : State) : (s.sendDmon ns).agu = s.agu := rfl
@[simp] theorem State.sendDmon_dmon (ns : List PeerNotice) (s : State) : (s.sendDmon ns).dmon = s.dmon := rfl
@[simp] theorem State.sendDmon_anch (ns : List PeerNotice) (s : State) : (s.sendDmon ns).anch = s.anch := rfl
@[simp] theorem State.sendDmon_capu (ns : List PeerNotice) (s : State) : (s.sendDmon ns).capu = s.capu := rfl
@[simp] theorem State.sendDmon_msch (ns : List PeerNotice) (s : State) : (s.sendDmon ns).msch = s.msch := rfl
@[simp] theorem State.sendDmon_svc (ns : List PeerNotice) (s : State) : (s.sendDmon ns).svc = s.svc := rfl
@[simp] theorem State.sendDmon_net (ns : List PeerNotice) (s : State) : (s.sendDmon ns).net = { s.net with toDmon := s.net.toDmon ++ ns } := rfl
@[simp] theorem State.sendDmon_freeDraws (ns : List PeerNotice) (s : State) : (s.sendDmon ns).freeDraws = s.freeDraws := rfl
@[simp] theorem State.sendDmon_pending (ns : List PeerNotice) (s : State) : (s.sendDmon ns).pending = s.pending := rfl

/-! ### `sendWarn` -/

@[simp] theorem State.sendWarn_osc (ws : List WarnNotice) (s : State) : (s.sendWarn ws).osc = s.osc := rfl
@[simp] theorem State.sendWarn_eclk (ws : List WarnNotice) (s : State) : (s.sendWarn ws).eclk = s.eclk := rfl
@[simp] theorem State.sendWarn_span (ws : List WarnNotice) (s : State) : (s.sendWarn ws).span = s.span := rfl
@[simp] theorem State.sendWarn_ptab (ws : List WarnNotice) (s : State) : (s.sendWarn ws).ptab = s.ptab := rfl
@[simp] theorem State.sendWarn_agu (ws : List WarnNotice) (s : State) : (s.sendWarn ws).agu = s.agu := rfl
@[simp] theorem State.sendWarn_dmon (ws : List WarnNotice) (s : State) : (s.sendWarn ws).dmon = s.dmon := rfl
@[simp] theorem State.sendWarn_anch (ws : List WarnNotice) (s : State) : (s.sendWarn ws).anch = s.anch := rfl
@[simp] theorem State.sendWarn_capu (ws : List WarnNotice) (s : State) : (s.sendWarn ws).capu = s.capu := rfl
@[simp] theorem State.sendWarn_msch (ws : List WarnNotice) (s : State) : (s.sendWarn ws).msch = s.msch := rfl
@[simp] theorem State.sendWarn_svc (ws : List WarnNotice) (s : State) : (s.sendWarn ws).svc = s.svc := rfl
@[simp] theorem State.sendWarn_net (ws : List WarnNotice) (s : State) : (s.sendWarn ws).net = { s.net with warn := s.net.warn ++ ws } := rfl
@[simp] theorem State.sendWarn_freeDraws (ws : List WarnNotice) (s : State) : (s.sendWarn ws).freeDraws = s.freeDraws := rfl
@[simp] theorem State.sendWarn_pending (ws : List WarnNotice) (s : State) : (s.sendWarn ws).pending = s.pending := rfl

/-! ### `overrunMark` -/

@[simp] theorem State.overrunMark_osc (s : State) : (s.overrunMark).osc = s.osc := rfl
@[simp] theorem State.overrunMark_eclk (s : State) : (s.overrunMark).eclk = s.eclk := rfl
@[simp] theorem State.overrunMark_span (s : State) : (s.overrunMark).span = s.span := rfl
@[simp] theorem State.overrunMark_ptab (s : State) : (s.overrunMark).ptab = s.ptab := rfl
@[simp] theorem State.overrunMark_agu (s : State) : (s.overrunMark).agu = s.agu := rfl
@[simp] theorem State.overrunMark_dmon (s : State) : (s.overrunMark).dmon = s.dmon := rfl
@[simp] theorem State.overrunMark_anch (s : State) : (s.overrunMark).anch = s.anch := rfl
@[simp] theorem State.overrunMark_capu (s : State) : (s.overrunMark).capu = s.capu := rfl
@[simp] theorem State.overrunMark_msch (s : State) : (s.overrunMark).msch = s.msch := rfl
@[simp] theorem State.overrunMark_svc (s : State) : (s.overrunMark).svc = { s.svc with buffer := { s.svc.buffer with overrun := true } } := rfl
@[simp] theorem State.overrunMark_net (s : State) : (s.overrunMark).net = s.net := rfl
@[simp] theorem State.overrunMark_freeDraws (s : State) : (s.overrunMark).freeDraws = s.freeDraws := rfl
@[simp] theorem State.overrunMark_pending (s : State) : (s.overrunMark).pending = s.pending := rfl

/-! ### `beginRequest` -/

@[simp] theorem State.beginRequest_osc (code : Byte) (s : State) : (s.beginRequest code).osc = s.osc := rfl
@[simp] theorem State.beginRequest_eclk (code : Byte) (s : State) : (s.beginRequest code).eclk = s.eclk := rfl
@[simp] theorem State.beginRequest_span (code : Byte) (s : State) : (s.beginRequest code).span = s.span := rfl
@[simp] theorem State.beginRequest_ptab (code : Byte) (s : State) : (s.beginRequest code).ptab = s.ptab := rfl
@[simp] theorem State.beginRequest_agu (code : Byte) (s : State) : (s.beginRequest code).agu = s.agu := rfl
@[simp] theorem State.beginRequest_dmon (code : Byte) (s : State) : (s.beginRequest code).dmon = s.dmon := rfl
@[simp] theorem State.beginRequest_anch (code : Byte) (s : State) : (s.beginRequest code).anch = s.anch := rfl
@[simp] theorem State.beginRequest_capu (code : Byte) (s : State) : (s.beginRequest code).capu = s.capu := rfl
@[simp] theorem State.beginRequest_msch (code : Byte) (s : State) : (s.beginRequest code).msch = s.msch := rfl
@[simp] theorem State.beginRequest_svc (code : Byte) (s : State) : (s.beginRequest code).svc = { s.svc with
      request := some code, buffer := { status := .notReady, code := code, overrun := false, body := [] } } := rfl
@[simp] theorem State.beginRequest_net (code : Byte) (s : State) : (s.beginRequest code).net = s.net := rfl
@[simp] theorem State.beginRequest_freeDraws (code : Byte) (s : State) : (s.beginRequest code).freeDraws = s.freeDraws := rfl
@[simp] theorem State.beginRequest_pending (code : Byte) (s : State) : (s.beginRequest code).pending = s.pending := rfl

/-! ### `answer` -/

@[simp] theorem State.answer_osc (status : Status) (body : List Byte) (s : State) : (s.answer status body).osc = s.osc := rfl
@[simp] theorem State.answer_eclk (status : Status) (body : List Byte) (s : State) : (s.answer status body).eclk = s.eclk := rfl
@[simp] theorem State.answer_span (status : Status) (body : List Byte) (s : State) : (s.answer status body).span = s.span := rfl
@[simp] theorem State.answer_ptab (status : Status) (body : List Byte) (s : State) : (s.answer status body).ptab = s.ptab := rfl
@[simp] theorem State.answer_agu (status : Status) (body : List Byte) (s : State) : (s.answer status body).agu = s.agu := rfl
@[simp] theorem State.answer_dmon (status : Status) (body : List Byte) (s : State) : (s.answer status body).dmon = s.dmon := rfl
@[simp] theorem State.answer_anch (status : Status) (body : List Byte) (s : State) : (s.answer status body).anch = s.anch := rfl
@[simp] theorem State.answer_capu (status : Status) (body : List Byte) (s : State) : (s.answer status body).capu = s.capu := rfl
@[simp] theorem State.answer_msch (status : Status) (body : List Byte) (s : State) : (s.answer status body).msch = s.msch := rfl
@[simp] theorem State.answer_svc (status : Status) (body : List Byte) (s : State) : (s.answer status body).svc = { s.svc with response := some { status := status, body := body } } := rfl
@[simp] theorem State.answer_net (status : Status) (body : List Byte) (s : State) : (s.answer status body).net = s.net := rfl
@[simp] theorem State.answer_freeDraws (status : Status) (body : List Byte) (s : State) : (s.answer status body).freeDraws = s.freeDraws := rfl
@[simp] theorem State.answer_pending (status : Status) (body : List Byte) (s : State) : (s.answer status body).pending = s.pending := rfl

/-! ### `post` -/

@[simp] theorem State.post_osc (src : Poster) (p : Posting) (s : State) : (s.post src p).osc = s.osc := rfl
@[simp] theorem State.post_eclk (src : Poster) (p : Posting) (s : State) : (s.post src p).eclk = s.eclk := rfl
@[simp] theorem State.post_span (src : Poster) (p : Posting) (s : State) : (s.post src p).span = s.span := rfl
@[simp] theorem State.post_ptab (src : Poster) (p : Posting) (s : State) : (s.post src p).ptab = s.ptab := rfl
@[simp] theorem State.post_agu (src : Poster) (p : Posting) (s : State) : (s.post src p).agu = s.agu := rfl
@[simp] theorem State.post_dmon (src : Poster) (p : Posting) (s : State) : (s.post src p).dmon = s.dmon := rfl
@[simp] theorem State.post_anch (src : Poster) (p : Posting) (s : State) : (s.post src p).anch = s.anch := rfl
@[simp] theorem State.post_capu (src : Poster) (p : Posting) (s : State) : (s.post src p).capu = s.capu := rfl
@[simp] theorem State.post_msch (src : Poster) (p : Posting) (s : State) : (s.post src p).msch = s.msch := rfl
@[simp] theorem State.post_svc (src : Poster) (p : Posting) (s : State) : (s.post src p).svc = s.svc := rfl
@[simp] theorem State.post_freeDraws (src : Poster) (p : Posting) (s : State) : (s.post src p).freeDraws = s.freeDraws := rfl
@[simp] theorem State.post_pending (src : Poster) (p : Posting) (s : State) : (s.post src p).pending = s.pending := rfl
@[simp] theorem State.post_agu_net (p : Posting) (s : State) :
    (s.post .agu p).net = { s.net with postAgu := s.net.postAgu ++ [p] } := rfl
@[simp] theorem State.post_dmon_net (p : Posting) (s : State) :
    (s.post .dmon p).net = { s.net with postDmon := s.net.postDmon ++ [p] } := rfl
@[simp] theorem State.post_svc_net (p : Posting) (s : State) :
    (s.post .svc p).net = { s.net with postSvc := s.net.postSvc ++ [p] } := rfl

/-! ### The clock reads the same -/

@[simp] theorem clockNs_onSpan (f : Span → Span) (s : State) : clockNs (s.onSpan f) = clockNs s := rfl
@[simp] theorem clockNs_onAgu (f : Agu → Agu) (s : State) : clockNs (s.onAgu f) = clockNs s := rfl
@[simp] theorem clockNs_onDmon (f : Dmon → Dmon) (s : State) : clockNs (s.onDmon f) = clockNs s := rfl
@[simp] theorem clockNs_onCapu (f : Capu → Capu) (s : State) : clockNs (s.onCapu f) = clockNs s := rfl
@[simp] theorem clockNs_onMsch (f : Msch → Msch) (s : State) : clockNs (s.onMsch f) = clockNs s := rfl
@[simp] theorem clockNs_onSvc (f : Svc → Svc) (s : State) : clockNs (s.onSvc f) = clockNs s := rfl
@[simp] theorem clockNs_onNet (f : InFlight → InFlight) (s : State) : clockNs (s.onNet f) = clockNs s := rfl

end Sys2Proof.Machine
end

