-- ==== Sys2Proof/Laws/Ops.lean ====
section
/-! SUPPORT. Each shared operation once: what it answers in each of its cases, so that a proof about a command cites it. -/

namespace Sys2Proof.Machine

/-! ## Tables -/

@[simp] theorem mapAll_getElem {α : Type} {n : Nat} (f : α → α) (v : Vector α n) (i : Nat) (h : i < n) :
    (mapAll f v)[i] = f v[i] := by simp [mapAll]

@[simp] theorem mapNumbered_getElem {α : Type} {n : Nat} (f : Fin n → α → α) (v : Vector α n) (i : Nat) (h : i < n) :
    (mapNumbered f v)[i] = f ⟨i, h⟩ v[i] := by simp [mapNumbered]

theorem mem_stations (p : Station) : p ∈ stations := List.mem_finRange p

/-! ## Arithmetic -/

/-- A clamp is a maximum of a minimum. -/
theorem clampInt_eq {lo hi : Int} (h : lo ≤ hi) (x : Int) : clampInt lo hi x = max lo (min hi x) := by
  unfold clampInt; split
  · omega
  · split <;> omega

theorem satAbs_eq {limit : Int} (h : 0 ≤ limit) (x : Int) : satAbs limit x = max (-limit) (min limit x) :=
  clampInt_eq (by omega) x

theorem satAbs_natAbs_le (limit : Nat) (x : Int) : (satAbs limit x).natAbs ≤ limit := by
  rw [satAbs_eq (by omega)]; omega

theorem satUnc_le (x : Nat) : satUnc x ≤ Config.unbounded := Nat.min_le_left _ _

theorem ownU_le (s : State) : ownU s ≤ Config.unbounded := by
  unfold ownU; split
  · exact le_refl _
  · exact satUnc_le _

/-- `ceilDiv a b` is the least `q` with `a ≤ q * b`. -/
theorem ceilDiv_le_iff {a b q : Nat} (hb : 0 < b) : ceilDiv a b ≤ q ↔ a ≤ q * b := by
  unfold ceilDiv
  rw [← Nat.lt_succ_iff, Nat.div_lt_iff_lt_mul hb, Nat.succ_mul]; omega

theorem ceilDiv_mul (q : Nat) {b : Nat} (hb : 0 < b) : ceilDiv (q * b) b = q := by
  unfold ceilDiv
  rw [Nat.mul_comm, Nat.mul_add_div hb, Nat.div_eq_of_lt (by omega), Nat.add_zero]

/-- R5, R44: a round period is a whole number of ticks. -/
theorem Period.ticks_eq (p : Period) : p.ticks = p.ns / 40 := by cases p <;> decide

/-! ## Bits and bytes (R20, R167, R170) -/

@[simp] theorem bytesOfBits_length (n : Nat) (bits : List Bool) : (bytesOfBits n bits).length = n := by
  induction n generalizing bits with
  | zero => rfl
  | succ n ih => simp [bytesOfBits, ih]

/-- The byte of each place is made of its own eight bits. -/
theorem bytesOfBits_getElem? {n k : Nat} (hk : k < n) (bits : List Bool) :
    (bytesOfBits n bits)[k]? = some (byteOfBits ((bits.drop (8 * k)).take 8)) := by
  induction n generalizing bits k with
  | zero => omega
  | succ n ih =>
    cases k with
    | zero => simp [bytesOfBits]
    | succ k => simp [bytesOfBits, ih (Nat.lt_of_succ_lt_succ hk), Nat.mul_succ, Nat.add_comm]

theorem byteOfBits_bitsOfByte (b : Byte) : byteOfBits (bitsOfByte b) = b := by decide +revert

/-- Bytes sent as bits are gathered as the bytes they were, whatever follows them. -/
theorem bytesOfBits_bitsOfBytes (bs : List Byte) (rest : List Bool) : bytesOfBits bs.length (bitsOfBytes bs ++ rest) = bs := by
  induction bs with
  | nil => rfl
  | cons b bs ih =>
    have hb : (bitsOfByte b).length = 8 := rfl
    simp only [List.length_cons, bytesOfBits, bitsOfBytes, List.flatMap_cons, List.append_assoc] at ih ⊢
    rw [← hb, List.take_left, List.drop_left, byteOfBits_bitsOfByte, ih]

@[simp] theorem shiftedIn_length (mosi : List Bool) : (shiftedIn mosi).length = mosi.length / 8 := bytesOfBits_length _ _

@[simp] theorem bitsOfBytes_length (bs : List Byte) : (bitsOfBytes bs).length = 8 * bs.length := by
  induction bs with
  | nil => rfl
  | cons b bs ih =>
    simp only [bitsOfBytes, List.flatMap_cons, List.length_append, List.length_cons] at ih ⊢
    rw [ih]; simp [bitsOfByte]; omega

/-- R170: fewer than eight clocks after the last whole byte add nothing. -/
theorem shiftedIn_partial (bs : List Byte) {part : List Bool} (h : part.length < 8) : shiftedIn (bitsOfBytes bs ++ part) = bs := by
  rw [shiftedIn, List.length_append, bitsOfBytes_length, show (8 * bs.length + part.length) / 8 = bs.length by omega, bytesOfBits_bitsOfBytes]

/-! ## Stepping and advancing the clock (R7, R12, R13) -/

theorem steppedClock_le (b : Nat) (c : Int) : steppedClock b c ≤ Config.maxClock := by
  unfold steppedClock; rw [clampInt_eq (by decide)]; omega

/-- R12: an update boundary with no step pending. -/
theorem updateBoundary_none {s : State} (h : s.eclk.stepSlot = none) :
    s.updateBoundary =
      { s with
        eclk :=
          { s.eclk with
            trim := s.eclk.trimSlot.getD s.eclk.trim
            trimSlot := none
            phase := s.eclk.phaseSlot.getD s.eclk.phase
            phaseSlot := none } } := by
  rcases s with ⟨osc, ⟨secs, ns, sub, trim, phase, total, _ | ps, _ | ts, ss, hold⟩⟩ <;>
    (cases h; simp [State.updateBoundary, State.onEclk, applyPhase, applyTrim])

/-- R12, R13, R14: an update boundary with a step pending. -/
theorem updateBoundary_step {s : State} {c : Int} (h : s.eclk.stepSlot = some c) :
    s.updateBoundary =
      ({ s with
        eclk :=
          { s.eclk with
            secs := steppedClock (clockNs s) c / Config.nsPerSecond
            ns := steppedClock (clockNs s) c % Config.nsPerSecond
            trim := s.eclk.trimSlot.getD s.eclk.trim
            trimSlot := none
            phase := 0
            phaseSlot := none
            stepSlot := none } } : State).sendStep (appliedStep (clockNs s) c) := by
  rcases s with ⟨osc, ⟨secs, ns, sub, trim, phase, total, ps, _ | ts, ss, hold⟩⟩ <;>
    (cases h; simp [State.updateBoundary, State.onEclk, applyStep, applyTrim])

/-! ## Postings (R11, R17) -/

theorem takePosting_hold {s : State} (h : s.eclk.hold = true) (v : Int) :
    s.takePosting (.phase v) = s ∧ s.takePosting (.trim v) = s := by simp [State.takePosting, h]

theorem takePosting_phase {s : State} (h : s.eclk.hold = false) (v : Int) :
    s.takePosting (.phase v) =
      { s with eclk := { s.eclk with phaseSlot := some (satAbs (slewUnits s.svc.image.slewLimit) v) } } := by
  simp [State.takePosting, h, State.onEclk]

theorem takePosting_trim {s : State} (h : s.eclk.hold = false) (v : Int) :
    s.takePosting (.trim v) = { s with eclk := { s.eclk with trimSlot := some (satAbs Config.trimLimit v) } } := by
  simp [State.takePosting, h, State.onEclk]

theorem takePosting_step (s : State) (c : Int) :
    s.takePosting (.step c) = { s with eclk := { s.eclk with stepSlot := some c } } := rfl

/-! ## The warning list (R103, R104) -/

theorem any_isFor_iff (ws : List Warning) (k : WarningKind) (subj : Subject) :
    ws.any (Warning.isFor k subj) = true ↔ ∃ x ∈ ws, x.kind = k ∧ x.subject = subj := by
  simp [Warning.isFor]

/-- R103: where a new warning goes. -/
theorem insertWarning_split (w : Warning) :
    ∀ ws : List Warning, ws.Pairwise (fun v w => v.time ≤ w.time) →
      ∃ a b, ws = a ++ b ∧ (∀ x ∈ a, x.time ≤ w.time) ∧ (∀ x ∈ b, w.time < x.time) ∧ insertWarning w ws = a ++ w :: b
  | [], _ => ⟨[], [], rfl, by simp, by simp, rfl⟩
  | x :: xs, h => by
    rw [List.pairwise_cons] at h
    by_cases hx : w.time < x.time
    · refine ⟨[], x :: xs, rfl, by simp, ?_, by simp [insertWarning, hx]⟩
      intro y hy
      rcases List.mem_cons.1 hy with rfl | hy
      · exact hx
      · exact lt_of_lt_of_le hx (h.1 y hy)
    · obtain ⟨a, b, rfl, ha, hb, hi⟩ := insertWarning_split w xs h.2
      refine ⟨x :: a, b, rfl, ?_, hb, by simp [insertWarning, hx, hi]⟩
      intro y hy
      rcases List.mem_cons.1 hy with rfl | hy
      · exact not_lt.1 hx
      · exact ha y hy

/-- R103: everything a raise does. -/
theorem raiseWarning_raised {s : State} (w : Warning) (h : s.dmon.warnings.Pairwise (fun v w => v.time ≤ w.time)) :
    Raised w s (s.raiseWarning w) := by
  refine ⟨fun hx => ?_, fun hx => ?_⟩
  · simp only [State.raiseWarning, (any_isFor_iff _ _ _).2 hx, if_true]
  · obtain ⟨a, b, hs, ha, hb, hi⟩ := insertWarning_split w _ h
    refine ⟨a, b, hs, ha, hb, ?_⟩
    have hn : s.dmon.warnings.any (Warning.isFor w.kind w.subject) = false := by
      rw [Bool.eq_false_iff]; intro hc
      obtain ⟨x, hm, hk⟩ := (any_isFor_iff _ _ _).1 hc
      rcases hx x hm with h1 | h1
      · exact h1 hk.1
      · exact h1 hk.2
    simp [State.raiseWarning, hn, State.onDmon, State.onSvc, hi]

/-- R104: a removal that finds nothing. -/
theorem removeWarning_absent {s : State} {k : WarningKind} {subj : Subject}
    (h : ∀ x ∈ s.dmon.warnings, x.kind ≠ k ∨ x.subject ≠ subj) : s.removeWarning k subj = s := by
  have hn : s.dmon.warnings.any (Warning.isFor k subj) = false := by
    rw [Bool.eq_false_iff]; intro hc
    obtain ⟨x, hm, hk⟩ := (any_isFor_iff _ _ _).1 hc
    rcases h x hm with h1 | h1
    · exact h1 hk.1
    · exact h1 hk.2
  simp [State.removeWarning, hn]

/-- The oldest notice of a kind stands behind notices of other kinds only. -/
theorem takeNotice_append (k : NoticeKind) (n : WarnNotice) (b : List WarnNotice) (hn : n.kind = k) :
    ∀ a : List WarnNotice, (∀ x ∈ a, x.kind ≠ k) → takeNotice k (a ++ n :: b) = some (n, a ++ b)
  | [], _ => by simp [takeNotice, hn]
  | x :: xs, h => by
    have ih := takeNotice_append k n b hn xs (fun y hy => h y (List.mem_cons_of_mem _ hy))
    simp [takeNotice, h x (List.mem_cons_self ..), ih]

/-! ## Requests (R168, R169) -/

theorem takeRequest_busy {s : State} {code : Byte} (act : State → State × Status × List Byte) {c : Byte}
    (h : s.svc.request = some c) : takeRequest code act s = s.overrunMark := by simp [takeRequest, h]

theorem takeRequest_free {s : State} {code : Byte} (act : State → State × Status × List Byte) (h : s.svc.request = none) :
    takeRequest code act s =
      (act (s.beginRequest code)).1.answer (act (s.beginRequest code)).2.1 (tickBytes s ++ (act (s.beginRequest code)).2.2) := by
  simp [takeRequest, h]

/-- R168: a request that changes no block is answered, and nothing else happens. -/
theorem takeRequest_unchanged {s : State} {code : Byte} {act : State → State × Status × List Byte} {status : Status}
    {body : List Byte} (h : s.svc.request = none)
    (hact : act (s.beginRequest code) = unchanged status body (s.beginRequest code)) :
    takeRequest code act s = answered code status body s := by
  rw [takeRequest_free act h, hact]; rfl

/-! ## Bytes (R167) -/

@[simp] theorem beBytes_length (n v : Nat) : (beBytes n v).length = n := by
  induction n with
  | zero => rfl
  | succ n ih => simp [beBytes, ih]

/-- Bytes read back, after bytes read before them. -/
theorem beNat_foldl (n : Nat) : ∀ (acc v : Nat), v < 256 ^ n →
    (beBytes n v).foldl (fun acc b => acc * 256 + b.toNat) acc = acc * 256 ^ n + v := by
  induction n with
  | zero => intro acc v h; simp at h; simp [beBytes, h]
  | succ n ih =>
    intro acc v h
    have hp : 0 < 256 ^ n := Nat.pow_pos (by decide)
    have hd : v / 256 ^ n < 256 := by rw [Nat.div_lt_iff_lt_mul hp]; rw [Nat.pow_succ] at h; omega
    have hmod : ∀ m w : Nat, beBytes m (w % 256 ^ m) = beBytes m w := by
      intro m
      induction m with
      | zero => intro w; rfl
      | succ m ihm =>
        intro w
        have e1 : (w % 256 ^ (m + 1)) % 256 ^ m = w % 256 ^ m :=
          Nat.mod_mod_of_dvd _ (Nat.pow_dvd_pow _ (Nat.le_succ _))
        have e2 : w % 256 ^ (m + 1) / 256 ^ m = w / 256 ^ m % 256 := by
          rw [Nat.pow_succ, Nat.mod_mul_right_div_self]
        simp only [beBytes]
        rw [← ihm (w % 256 ^ (m + 1)), e1, ihm, e2]
        congr 1
        apply BitVec.eq_of_toNat_eq; simp
    simp only [beBytes, List.foldl_cons]
    rw [← hmod n v, ih _ _ (Nat.mod_lt _ hp)]
    have : (BitVec.ofNat 8 (v / 256 ^ n)).toNat = v / 256 ^ n := by
      simp only [BitVec.toNat_ofNat]; exact Nat.mod_eq_of_lt hd
    rw [this, Nat.pow_succ, Nat.add_mul, Nat.mul_assoc, Nat.add_assoc]
    congr 1
    · ring
    · exact Nat.div_add_mod' v _

theorem beNat_beBytes {n v : Nat} (h : v < 256 ^ n) : beNat (beBytes n v) = v := by
  unfold beNat; rw [beNat_foldl n 0 v h]; simp

/-- The statements' bytes of a number are the model's. -/
theorem bigEndian_eq (n v : Nat) : bigEndian n v = beBytes n v := by
  induction n with
  | zero => rfl
  | succ n ih =>
    rw [beBytes, ← ih, bigEndian, List.range_succ_eq_map]
    simp only [List.map_cons, List.map_map, bigEndian]
    congr 1
    apply List.map_congr_left
    intro i hi
    simp only [Function.comp, Nat.succ_eq_add_one]
    congr 3
    omega

/-! ## Bit times (R19, R178) -/

/-- R19, R178: the class of a bit time is what the receiver hears in it. -/
theorem heard_iff (h : BitHalves) (sym : LineSymbol) : Heard h sym ↔ classBitTime h = sym := by
  rcases h with ⟨f, g⟩
  rcases sym with _ | b | _
  · cases f <;> cases g <;> simp [Heard, classBitTime]
  · cases b <;> cases f <;> cases g <;> simp [Heard, classBitTime]
  · cases f <;> cases g <;> simp [Heard, classBitTime]

/-- R178: a driven bit is heard as itself. -/
theorem classBitTime_halvesOfBit (b : Bool) : classBitTime (halvesOfBit b) = .bit b := by cases b <;> rfl

/-! ## Step notices on their way to CAPU and MSCH (R134, R148) -/

theorem overdueNotice_iff (onWay : List StepNotice) (s : State) :
    overdueNotice onWay s = true ↔ ∃ n ∈ onWay, n.tick ≠ s.osc.tick := by simp [overdueNotice]

theorem overdueNotice_false_iff (onWay : List StepNotice) (s : State) :
    overdueNotice onWay s = false ↔ ∀ n ∈ onWay, n.tick = s.osc.tick := by simp [overdueNotice]

theorem clockAtCapu_eq (s : State) : clockAtCapu s = capuClock s := rfl

theorem clockAtMsch_eq (s : State) : clockAtMsch s = mschClock s := rfl

/-! ## Fires (R148 to R157) -/

theorem guardMet_iff (s : State) (g : Guard) : guardMet (fireContext s) g = true ↔ guardHolds s g := by
  have hu := ownU_le s
  cases g with
  | none => simp [guardMet, guardHolds]
  | agreedOnly => exact decide_eq_true_iff
  | bound b =>
    change (decide (ownU s ≤ b) && decide (ownU s < 4294967295)) = true ↔ ownU s ≤ b ∧ ownU s ≠ 4294967295
    simp only [Config.unbounded] at hu
    simp only [Bool.and_eq_true, decide_eq_true_iff]
    omega

/-- R155: the skip rule goes no further than it must. -/
theorem leastSkip_periodsPast {clock fire period : Nat} (h : 0 < period) :
    LeastSkip clock fire period (periodsPast clock fire period) := by
  unfold LeastSkip periodsPast
  split
  · rename_i hle
    have hd : (clock - fire) / period * period ≤ clock - fire := Nat.div_mul_le_self _ _
    have hm : clock - fire < ((clock - fire) / period + 1) * period := by
      rw [Nat.mul_comm]; exact Nat.lt_mul_div_succ _ h
    refine ⟨by omega, fun i hi => ?_⟩
    have : i * period ≤ (clock - fire) / period * period := Nat.mul_le_mul_right _ (Nat.lt_succ_iff.1 hi)
    omega
  · exact ⟨by omega, fun i hi => absurd hi (Nat.not_lt_zero _)⟩

/-- R149: what a fire adds to the suppressed count. -/
theorem countSuppressed_after (s : State) (e : SchedEntry) :
    ∃ sup, SuppressedAfter s e sup ∧ countSuppressed (fireContext s) e = { e with suppressed := sup } := by
  unfold countSuppressed SuppressedAfter
  split
  · rename_i h
    exact ⟨e.suppressed, ⟨fun _ => rfl, fun hn => absurd ((guardMet_iff s _).1 h) hn⟩, rfl⟩
  · rename_i h
    exact ⟨_, ⟨fun hy => absurd ((guardMet_iff s _).2 hy) h, fun _ => rfl⟩, rfl⟩

/-- R149 to R152, R155: everything one fire of an entry does. -/
theorem firedEntry_fired (s : State) (late : Bool) {e : SchedEntry} (h : EntryInRange e) :
    EntryFired s late e (firedEntry (fireContext s) late e) := by
  obtain ⟨sup, hsup, hc⟩ := countSuppressed_after s e
  obtain ⟨hl, hs, -⟩ := h
  refine ⟨(takeUpStaging e).live, nextFire e (takeUpStaging e), sup,
    periodsPast (clockAtMsch s) (nextFire e (takeUpStaging e)) (takeUpStaging e).live.period, ?_, ?_, hsup, ?_, ?_⟩
  · intro hst; simp [takeUpStaging, nextFire, hst]
  · intro hst
    have : (takeUpStaging e).live = taken e.staging := by
      simp only [takeUpStaging, hst, if_true, taken, startCount]
      cases e.staging.mode <;> simp
    simp only [this, nextFire, hst, if_true, true_and]
    rfl
  · apply leastSkip_periodsPast
    have h1 := hl.1; have h2 := hs.1
    unfold takeUpStaging
    split
    · exact lt_of_lt_of_le (by decide) h2
    · exact lt_of_lt_of_le (by decide) h1
  · have hf : firedEntry (fireContext s) late e =
        countFire (clockAtMsch s) (nextFire e (takeUpStaging e))
          { e with suppressed := sup, late := e.late || late, staged := false, live := (takeUpStaging e).live } := by
      simp only [firedEntry, hc]
      rcases e with ⟨_, _, _, _, _, _, _, _, _, _, st⟩
      cases st <;> rfl
    rw [hf]
    generalize (takeUpStaging e).live = p
    generalize nextFire e (takeUpStaging e) = next
    refine ⟨fun hp => ?_, fun hp hm => ?_, fun hp hm => ?_⟩
    · simp [countFire, hp, skipPast]
    · simp [countFire, Nat.not_lt.2 hp, hm, skipPast]
    · cases hmode : p.mode with
      | cyclic => exact absurd hmode hm
      | single => simp [countFire, Nat.not_lt.2 hp, hmode]
      | finite => simp [countFire, Nat.not_lt.2 hp, hmode]

/-- R149, R150: everything the mark of a fire does to the mark lines. -/
theorem driveMark_marked (s : State) (p : Program) (lines : Vector MarkLine 4) :
    MarkedBy s p lines (driveMark (fireContext s) p lines) := by
  intro l
  unfold driveMark
  refine ⟨fun ho hg => ?_, fun hn => ?_⟩
  · have hm := (guardMet_iff s p.guard).2 hg
    rw [ho]
    simp only [hm, if_true]
    exact Vector.getElem_set_self _
  · cases ho : p.output with
    | none => rfl
    | some k =>
      by_cases hm : guardMet (fireContext s) p.guard = true
      · have hne : (k : Nat) ≠ l := fun he => hn ⟨(Fin.ext he : k = l) ▸ ho, (guardMet_iff s _).1 hm⟩
        simp only [hm, if_true]
        exact Vector.getElem_set_ne _ _ hne
      · simp only [hm, Bool.false_eq_true, if_false]

/-! ## The capture queue (R125, R132, R133) -/

@[simp] theorem changeEntry_length (f : CapEntry → CapEntry) (i : Nat) (q : List CapEntry) :
    (changeEntry f i q).length = q.length := by
  induction q generalizing i with
  | nil => cases i <;> rfl
  | cons e es ih => cases i <;> simp [changeEntry, ih]

/-- Only the entry at that place changes. -/
theorem changeEntry_getElem? (f : CapEntry → CapEntry) (i j : Nat) (q : List CapEntry) :
    (changeEntry f i q)[j]? = if i = j then q[j]?.map f else q[j]? := by
  induction q generalizing i j with
  | nil => cases i <;> simp [changeEntry]
  | cons e es ih =>
    cases i <;> cases j <;> simp [changeEntry, ih]

end Sys2Proof.Machine
end

