-- ==== Sys2Proof/Laws/PerInstr.lean ====
section
/-! SUPPORT. A law about every command as syntax, one lemma for each: the bytes written for a request open with a code that is not
the no-request code, so their transaction is a request and not a read (R168, R180). -/

namespace Sys2Proof.Laws

/-- The bytes written for the command, if it has any, open a request. -/
def Encodes.Statement (c : Instr) : Prop :=
  ∀ bs, encodeRequest c = some bs → ∃ code args, bs = code :: args ∧ code ≠ 0x00


theorem Encodes.fullReset (straps : Straps) : Encodes.Statement (.fullReset straps) := by
  intro bs h; cases h
theorem Encodes.tick (caps : BitVec 8) (ref : Bool) : Encodes.Statement (.tick caps ref) := by
  intro bs h; cases h
theorem Encodes.posting (src : Poster) : Encodes.Statement (.posting src) := by
  intro bs h; cases h
theorem Encodes.primaryLost : Encodes.Statement .primaryLost := by
  intro bs h; cases h
theorem Encodes.fallbackNoticeAtAgu : Encodes.Statement .fallbackNoticeAtAgu := by
  intro bs h; cases h
theorem Encodes.fallbackNoticeAtAnch : Encodes.Statement .fallbackNoticeAtAnch := by
  intro bs h; cases h
theorem Encodes.fallbackNoticeAtDmon : Encodes.Statement .fallbackNoticeAtDmon := by
  intro bs h; cases h
theorem Encodes.endOfSyncMark : Encodes.Statement .endOfSyncMark := by
  intro bs h; cases h
theorem Encodes.receptionEnd : Encodes.Statement .receptionEnd := by
  intro bs h; cases h
theorem Encodes.duplicateNotice : Encodes.Statement .duplicateNotice := by
  intro bs h; cases h
theorem Encodes.roundStartNotice : Encodes.Statement .roundStartNotice := by
  intro bs h; cases h
theorem Encodes.scheduledLaunch : Encodes.Statement .scheduledLaunch := by
  intro bs h; cases h
theorem Encodes.transmissionStart : Encodes.Statement .transmissionStart := by
  intro bs h; cases h
theorem Encodes.mismatch : Encodes.Statement .mismatch := by
  intro bs h; cases h
theorem Encodes.deferralLimit : Encodes.Statement .deferralLimit := by
  intro bs h; cases h
theorem Encodes.beaconCompletion : Encodes.Statement .beaconCompletion := by
  intro bs h; cases h
theorem Encodes.completionNotice : Encodes.Statement .completionNotice := by
  intro bs h; cases h
theorem Encodes.accusationList : Encodes.Statement .accusationList := by
  intro bs h; cases h
theorem Encodes.handOff : Encodes.Statement .handOff := by
  intro bs h; cases h
theorem Encodes.barExpiry (p : Station) : Encodes.Statement (.barExpiry p) := by
  intro bs h; cases h
theorem Encodes.silenceExpiry (p : Station) : Encodes.Statement (.silenceExpiry p) := by
  intro bs h; cases h
theorem Encodes.dissentNotice : Encodes.Statement .dissentNotice := by
  intro bs h; cases h
theorem Encodes.rebaseNotice : Encodes.Statement .rebaseNotice := by
  intro bs h; cases h
theorem Encodes.endOfListen : Encodes.Statement .endOfListen := by
  intro bs h; cases h
theorem Encodes.roundClose : Encodes.Statement .roundClose := by
  intro bs h; cases h
theorem Encodes.stepNoticeAtAgu : Encodes.Statement .stepNoticeAtAgu := by
  intro bs h; cases h
theorem Encodes.stepNoticeAtDmon : Encodes.Statement .stepNoticeAtDmon := by
  intro bs h; cases h
theorem Encodes.stepNoticeAtAnch : Encodes.Statement .stepNoticeAtAnch := by
  intro bs h; cases h
theorem Encodes.stepNoticeAtCapu : Encodes.Statement .stepNoticeAtCapu := by
  intro bs h; cases h
theorem Encodes.stepNoticeAtMsch : Encodes.Statement .stepNoticeAtMsch := by
  intro bs h; cases h
theorem Encodes.sample : Encodes.Statement .sample := by
  intro bs h; cases h
theorem Encodes.leaveNotice : Encodes.Statement .leaveNotice := by
  intro bs h; cases h
theorem Encodes.windowNotice : Encodes.Statement .windowNotice := by
  intro bs h; cases h
theorem Encodes.review : Encodes.Statement .review := by
  intro bs h; cases h
theorem Encodes.raiseNotice (k : NoticeKind) : Encodes.Statement (.raiseNotice k) := by
  intro bs h; cases h
theorem Encodes.removalNotice (k : NoticeKind) : Encodes.Statement (.removalNotice k) := by
  intro bs h; cases h
theorem Encodes.pulse : Encodes.Statement .pulse := by
  intro bs h; cases h
theorem Encodes.windowEnd : Encodes.Statement .windowEnd := by
  intro bs h; cases h
theorem Encodes.edgeOfInterest : Encodes.Statement .edgeOfInterest := by
  intro bs h; cases h
theorem Encodes.guardClose (l : CapLineNo) : Encodes.Statement (.guardClose l) := by
  intro bs h; cases h
theorem Encodes.settle (i : Fin 64) : Encodes.Statement (.settle i) := by
  intro bs h; cases h
theorem Encodes.overdue (i : Fin 64) : Encodes.Statement (.overdue i) := by
  intro bs h; cases h
theorem Encodes.headStandingReport : Encodes.Statement .headStandingReport := by
  intro bs h; cases h
theorem Encodes.fire (e : EntryNo) : Encodes.Statement (.fire e) := by
  intro bs h; cases h
theorem Encodes.markRelease (l : MarkLineNo) : Encodes.Statement (.markRelease l) := by
  intro bs h; cases h
theorem Encodes.scheduleReport : Encodes.Statement .scheduleReport := by
  intro bs h; cases h
theorem Encodes.configure (items : List CfgItem) : Encodes.Statement (.configure items) := by
  intro bs h; cases h; exact ⟨_, _, rfl, by decide⟩
theorem Encodes.start : Encodes.Statement .start := by
  intro bs h; cases h; exact ⟨_, _, rfl, by decide⟩
theorem Encodes.restart (straps : Straps) : Encodes.Statement (.restart straps) := by
  intro bs h; cases h; exact ⟨_, _, rfl, by decide⟩
theorem Encodes.settime (sec : BitVec 48) (ns : BitVec 32) (u : BitVec 32) : Encodes.Statement (.settime sec ns u) := by
  intro bs h; cases h; exact ⟨_, _, rfl, by decide⟩
theorem Encodes.anchor (sec : BitVec 48) (uRef : BitVec 32) : Encodes.Statement (.anchor sec uRef) := by
  intro bs h; cases h; exact ⟨_, _, rfl, by decide⟩
theorem Encodes.date : Encodes.Statement .date := by
  intro bs h; cases h; exact ⟨_, _, rfl, by decide⟩
theorem Encodes.peek : Encodes.Statement .peek := by
  intro bs h; cases h; exact ⟨_, _, rfl, by decide⟩
theorem Encodes.take : Encodes.Statement .take := by
  intro bs h; cases h; exact ⟨_, _, rfl, by decide⟩
theorem Encodes.label (line : Byte) (value : BitVec 16) : Encodes.Statement (.label line value) := by
  intro bs h; cases h; exact ⟨_, _, rfl, by decide⟩
theorem Encodes.stage (a : StageArgs) : Encodes.Statement (.stage a) := by
  intro bs h; cases h; exact ⟨_, _, rfl, by decide⟩
theorem Encodes.arm (n : Byte) : Encodes.Statement (.arm n) := by
  intro bs h; cases h; exact ⟨_, _, rfl, by decide⟩
theorem Encodes.stop (n : Byte) : Encodes.Statement (.stop n) := by
  intro bs h; cases h; exact ⟨_, _, rfl, by decide⟩
theorem Encodes.entry (n : Byte) : Encodes.Statement (.entry n) := by
  intro bs h; cases h; exact ⟨_, _, rfl, by decide⟩
theorem Encodes.status : Encodes.Statement .status := by
  intro bs h; cases h; exact ⟨_, _, rfl, by decide⟩
theorem Encodes.peer (n : Byte) : Encodes.Statement (.peer n) := by
  intro bs h; cases h; exact ⟨_, _, rfl, by decide⟩
theorem Encodes.warnings : Encodes.Statement .warnings := by
  intro bs h; cases h; exact ⟨_, _, rfl, by decide⟩
theorem Encodes.attention (enables : Byte) : Encodes.Statement (.attention enables) := by
  intro bs h; cases h; exact ⟨_, _, rfl, by decide⟩
theorem Encodes.overrun : Encodes.Statement .overrun := by
  intro bs h; cases h
theorem Encodes.unknownRequest (code : Byte) : Encodes.Statement (.unknownRequest code) := by
  intro bs h; cases h
theorem Encodes.bitTime (sym : BitHalves) : Encodes.Statement (.bitTime sym) := by
  intro bs h; cases h
theorem Encodes.fullResponsePlaced : Encodes.Statement .fullResponsePlaced := by
  intro bs h; cases h

end Sys2Proof.Laws
end

