-- ==== Sys2Proof/Tests/Slice0.lean ====
section
/-! SUPPORT. Tests: the smoke test of WellFormed, small checks of the commands against figures of the manual's worked sequences
(named in the comments by chapter and heading) and of its rules, and for every statement with hypotheses a witness that meets
them. -/

namespace Sys2Proof.Tests

open Sys2Proof Sys2Proof.Machine

set_option Elab.async false

/-! ## Helpers -/

/-- The next state, or the reset state where there is none. -/
def after (o : Host.Outcome State Fault Refusal) : State :=
  match o with
  | .next t => t
  | .fault _ => State.reset
  | .refused _ => State.reset

/-- The state after one command. -/
def did (c : Instr) (s : State) : State := after (exec c s)

/-- Is this outcome a next state? -/
def isNext : Host.Outcome State Fault Refusal → Bool
  | .next _ => true
  | .fault _ => false
  | .refused _ => false

theorem next_of_isNext {o : Host.Outcome State Fault Refusal} (h : isNext o = true) : ∃ t, o = .next t := by
  cases o with
  | next t => exact ⟨t, rfl⟩
  | fault _ => cases h
  | refused _ => cases h

/-- Station 11 right after a full reset with the strap code 1 (F = 1). -/
def s11 : State := State.resetWith { stn := 11, ft := 1 }

/-- Station 11 at a tick. -/
def atTick (t : Tick) : State := { s11 with osc := { s11.osc with tick := t } }

/-- A state in a sync state. -/
def inSync (x : SyncState) (s : State) : State := s.onAgu fun a => { a with sync := x }

/-- The clock set to a value in ns. -/
def atTime (ns : Nat) (s : State) : State :=
  s.onEclk fun e => { e with secs := ns / 1000000000, ns := ns % 1000000000 }

/-- U made this many ns, with the base set at this tick. -/
def withBase (u : Nat) (s : State) : State :=
  s.onAgu fun a => { a with unset := false, base := u, baseTick := s.osc.tick }

/-! ## WellFormed -/

theorem test_configure_of_256_items_is_ill_formed :
    WellFormed (.configure (List.replicate 256 { selector := 1, index := 0, value := 0 })) = false := by decide +kernel

theorem test_configure_of_255_items_is_well_formed :
    WellFormed (.configure (List.replicate 255 { selector := 1, index := 0, value := 0 })) = true := by decide +kernel

/-- R168: a transaction that opens with the no-request code is a read, not an ill-formed request. -/
theorem test_unknown_request_of_no_request_code_is_ill_formed : WellFormed (.unknownRequest 0x00) = false := by decide

/-- R170, R180: START needs no argument byte, so no transaction that opens with its code is short. -/
theorem test_unknown_request_of_start_code_is_ill_formed : WellFormed (.unknownRequest 0x02) = false := by decide

theorem test_unknown_request_of_unlisted_code_is_well_formed : WellFormed (.unknownRequest 0x40) = true := by decide

/-! ## The queue of commands -/

theorem test_step_takes_the_front :
    after (step { s11 with pending := [.primaryLost, .start] })
      = { did .primaryLost s11 with pending := [.start] } := by decide +kernel

theorem test_table_words_spell_nothing : decodeTableWord 8 0x10 = none := by decide

/-! ## Chapter 1 -/

/-- 1.10, A slew round: I = 671,089,447 with trim 2 and phase 805, 807 units above 40 ns. -/
theorem test_tick_adds_the_increment :
    (fun e : Eclk => (e.ns, e.sub, e.phaseTotal))
      (did (.tick 0 false) (s11.onEclk fun e => { e with trim := 2, phase := 805 })).eclk = (40, 807, 805) := by
  decide +kernel

/-- 1.10, A boundary with a step and a phase both pending. -/
theorem test_tick_at_a_mark_applies_the_step :
    (fun t : State => (clockNs t, t.eclk.sub, t.eclk.trim, t.eclk.phaseSlot, t.eclk.stepSlot, t.net.stepCapu))
      (did (.tick 0 false)
        ((atTime 100000999980 s11).onEclk fun e =>
          { e with sub := 8000000, trim := 2, phaseSlot := some 0, stepSlot := some (-2500) }))
      = (100000997520, 8000002, 2, none, none, [{ tick := 1, c := -2500 }]) := by decide +kernel

/-- 1.10, A step clamped at zero. -/
theorem test_step_clamped_at_zero :
    steppedClock 600000010 (-700000000) = 0 ∧ appliedStep 600000010 (-700000000) = -600000010 := by decide +kernel

/-- 1.10, A slew round and A clamped round. -/
theorem test_slew_phase :
    slewPhase Image.default 600 = 805 ∧ slewPhase { Image.default with period := .ms125 } 40000 = 134217
      ∧ slewPhase { Image.default with period := .ms125 } 15000 = 80531 := by decide +kernel

/-- 1.10, A clamped round: ECLK clamps 214,748 units to 134,217. -/
theorem test_posting_clamps_phase :
    (did (.posting .agu) (s11.post .agu (.phase 214748))).eclk.phaseSlot = some 134217 := by decide +kernel

/-- R8: a trim is clamped to 67,108 units on either side. -/
theorem test_posting_clamps_trim :
    (did (.posting .dmon) (s11.post .dmon (.trim (-70000)))).eclk.trimSlot = some (-67108) := by decide +kernel

theorem test_primary_lost_selects_backup :
    (fun t : State => (t.osc.selection, t.net.fallbackAnch)) (did .primaryLost s11) = (.backup, true) := by decide +kernel

/-- R3, R67: U = 600 + ceil(7,500,000 × 40 × 5 / 1,000,000) = 2,100 becomes the base (4.8, A five-interval round). -/
theorem test_fallback_notice_at_agu_rebases :
    (fun t : State => (t.agu.base, t.agu.baseTick, ownU t))
      (did .fallbackNoticeAtAgu
        ({ (withBase 600 s11) with osc := { selection := .backup, tick := 7500000 } }.onNet fun n =>
          { n with fallbackAgu := true })) = (2100, 7500000, 2100) := by decide +kernel

/-- R3, R112: the window opened at 1,000 ppm has the half-width (1,000,000 + 50,000) / 40 ticks. -/
theorem test_fallback_notice_at_anch_widens_the_next_window :
    anchorHalfTicks (did .fallbackNoticeAtAnch (s11.onNet fun n => { n with fallbackAnch := true })) = 26250 := by
  decide +kernel

/-- 5.8, The list under several blocks: the first event, taken after the clock has moved on from the raise (R105). -/
theorem test_fallback_notice_at_dmon_raises :
    (did .fallbackNoticeAtDmon (atTime 1000000000041 (did .primaryLost (atTime 1000000000000 s11)))).dmon.warnings
      = [{ kind := .oscFallback, subject := .own, time := 1000000000000, value := 0 }] := by decide +kernel

theorem test_full_reset_reads_the_straps :
    (fun t : State => (t.svc.station, faultTolerance t.svc.ftCode))
      (did (.fullReset { stn := 9, ft := 0 }) (inSync .agreed s11)) = (9, 1) := by decide +kernel

/-! ## Chapter 2 -/

theorem test_bit_time_counts_idle : (did (.bitTime { first := .bias, second := .bias }) s11).span.idleRun = 1 := by
  decide +kernel

/-- R178: the first bit of the sync mark 0xE1 is a 1, driven positive and then negative; its fourth is a 0, the other way round. -/
theorem test_driven_halves :
    drivenPair (s11.onSpan fun sp => { sp with tx := .sending }) = some { first := .positive, second := .negative }
      ∧ drivenPair (s11.onSpan fun sp => { sp with tx := .sending, sent := 3 })
        = some { first := .negative, second := .positive } := by decide +kernel

/-- R28: the contention level on the first driven bit is a mismatch (2.10, Two stations released by the same frame). -/
theorem test_bit_time_finds_a_mismatch :
    (did (.bitTime { first := .contention, second := .contention }) (s11.onSpan fun sp => { sp with tx := .sending, idleRun := 32 })).span.mismatched = true := by
  decide +kernel

/-- 2.10: the required idle runs of stations 6 and 11 after one collision. -/
theorem test_required_idle_run : requiredIdleRun 6 1 = 256 ∧ requiredIdleRun 11 1 = 416 ∧ requiredIdleRun 6 0 = 32 := by
  decide

/-- 2.10: station 6's deferral, (610 + 3,000) × 40 = 144,400 ns. -/
theorem test_end_of_sync_mark_fixes_the_deferral :
    (did .endOfSyncMark
        ((atTick 1003610).onSpan fun sp => { sp with tx := .sending, sched := some 1000000, syncDue := true })).span.frame.map
      LaunchFields.deferral = some 144400 := by decide +kernel

/-- The bits that station 20 sends after its sync mark for a beacon of sequence 7 with an accusation of 3. -/
def beacon20 : LaunchFields where
  stamp := 86400250001050
  tick := 0
  deferral := 1280
  seq := 7
  code := .ms500
  statedUnc := 600
  flags := { anchored := true, lone := false, holdover := false, humble := false, unset := false, stepped := true }
  accusations := some [3]

/-- A reception of a beacon of this station, ended on an idle bit time. -/
def heard (p : Station) (own : Bool) : Reception where
  bits := (bitsOfBytes (beaconBytes p beacon20)).drop 16
  how := .idle
  readings := some { stamp := 86400250000000, tick := 1000, phaseTotal := 12345, own := own }

theorem test_reception_end_hands_on_a_valid_frame :
    ((did .receptionEnd ((inSync .lone s11).onSpan fun sp => { sp with ended := [heard 20 false] })).net.handOffs.map
      fun h => (h.station, h.seq, h.launch, h.accusations, h.phaseTotal))
      = [(20, 7, 86400250001050, [3], 12345)] := by decide +kernel

/-- 2.10, A number strapped twice. -/
theorem test_reception_end_hears_a_duplicate :
    (fun t : State => (t.span.tx, t.span.mutedFlag, t.net.duplicates, t.net.handOffs))
      (did .receptionEnd ((inSync .listen s11).onSpan fun sp => { sp with ended := [heard 11 false] }))
      = (.muted, true, [0], []) := by decide +kernel

theorem test_duplicate_notice_raises :
    ((did .duplicateNotice (atTime 900 (s11.onNet fun n => { n with duplicates := [700] }))).dmon.warnings.map fun w =>
        (w.kind, w.time)) = [(.duplicateNumber, 700)] := by decide +kernel

/-- 9.7, Bringing a station up: the first launch of station 11 is 40,500,000 + 4,296,875 = 44,796,875. -/
theorem test_round_start_notice_sets_the_launch :
    (fun t : State => (t.span.tx, t.span.sched))
      (did .roundStartNotice
        ((atTick 40500000).onNet fun n => { n with roundStart := [{ tick := 40500000, first := true }] }))
      = (.waiting, some 44796875) := by decide +kernel

/-- A state of SPAN with a scheduled launch at tick 1,000,000. -/
def spanAt (tx : TxState) (tick idle : Nat) : State :=
  (atTick tick).onSpan fun sp => { sp with tx := tx, sched := some 1000000, idleRun := idle }

theorem test_scheduled_launch : (did .scheduledLaunch (spanAt .waiting 1000000 0)).span.tx = .deferring := by decide +kernel

theorem test_transmission_starts_at_32_idle_bit_times :
    (did .transmissionStart (spanAt .deferring 1000064 32)).span.tx = .sending
      ∧ (did .transmissionStart (spanAt .deferring 1000062 31)).span.tx = .deferring := by decide +kernel

/-- R30: the deferral limit of a 500 ms round is 1,562,500 ticks (2.10). -/
theorem test_deferral_limit_is_passed_one_tick_later :
    (did .deferralLimit (spanAt .deferring 2562500 0)).span.tx = .deferring
      ∧ (did .deferralLimit (spanAt .deferring 2562501 0)).span.tx = .waiting := by decide +kernel

theorem test_mismatch_counts_an_attempt :
    (fun t : State => (t.span.tx, t.span.attempts))
      (did .mismatch ((spanAt .sending 1000066 0).onSpan fun sp => { sp with mismatched := true })) = (.deferring, 1) := by
  decide +kernel

theorem test_third_mismatch_skips_the_beacon :
    (fun t : State => (t.span.tx, t.span.attempts, t.span.seq, t.net.completion))
      (did .mismatch ((spanAt .sending 1000066 0).onSpan fun sp => { sp with mismatched := true, attempts := 2 }))
      = (.waiting, 0, 0, []) := by decide +kernel

/-- 2.10: station 6's 28-byte frame, with one accusation, completes and its sequence 41 becomes 42; R36: 255 becomes 0. -/
theorem test_beacon_completion_advances_the_sequence :
    (fun t : State => (t.span.tx, t.span.seq, t.net.completion))
      (did .beaconCompletion ((spanAt .sending 1001026 0).onSpan fun sp => { sp with frame := some beacon20, sent := 224, seq := 41 }))
      = (.waiting, 42, [0]) := by decide +kernel

theorem test_completion_notice_clears_stepped :
    (did .completionNotice
      ((s11.onAgu fun a => { a with stepped := true, stepTick := some 500 }).onNet fun n => { n with completion := [501] })).agu.stepped
      = false := by decide +kernel

/-- R179: the check value. -/
theorem test_crc : crc16 [0x31, 0x32, 0x33, 0x34, 0x35, 0x36, 0x37, 0x38, 0x39] = 0x29B1 := by decide +kernel

/-- R100: the drifting peers by abs(d), then the barred ones. -/
theorem test_accusation_list_order :
    accusationList
      (((((s11.setDrift 4 { DriftRecord.reset with verdict := .drifting, d := -9000 }).setDrift 6
        { DriftRecord.reset with verdict := .drifting, d := 3008 }).setPeer 4 { PeerRecord.reset with link := .listening }).setPeer 6
        { PeerRecord.reset with link := .barred }).setPeer 2 { PeerRecord.reset with link := .barred }) = [4, 6, 2] := by
  decide +kernel

theorem test_accusation_list_goes_to_the_frame :
    (did .accusationList
        (((s11.setPeer 2 { PeerRecord.reset with link := .barred }).onSpan fun sp =>
          { sp with tx := .sending, frame := some { beacon20 with accusations := none } }))).span.frame.bind LaunchFields.accusations
      = some [2] := by decide +kernel

/-! ## Chapter 3 -/

/-- A beacon of peer 3 handed on by SPAN. -/
def beat (seq : BitVec 8) (tick deferral : Nat) : HandOff where
  station := 3
  seq := seq
  flags := { anchored := false, lone := false, holdover := false, humble := false, unset := false, stepped := false }
  statedUnc := 600
  period := .ms500
  deferral := deferral
  launch := 1000
  accusations := []
  stamp := 0
  tick := tick
  phaseTotal := 0

/-- Peer 3's record with a last sequence and a last scheduled arrival, read by the default profile. -/
def peer3 (link : LinkState) (inBeat : Nat) (seq : BitVec 8) (sched : Int) : PeerRecord where
  link := link
  profile := some .dflt
  lastSeq := seq
  lastSched := sched
  interval := some .ms500
  inBeat := inBeat
  dissent := 0
  barExpiry := none
  silenceExpiry := some (sched + 51562500)
  accusesMe := false
  obs := some (observationOf ProfileAttrs.default (beat seq sched.toNat 0))

/-- PTAB with this record of peer 3 and this beacon on its way. -/
def handing (r : PeerRecord) (h : HandOff) : State :=
  ((atTick (h.tick + 400)).setPeer 3 r).onNet fun n => { n with handOffs := [h] }

/-- What the table of 3.11, A peer's beat through a skip, a loss and a babble, shows of a record. -/
def shown (t : State) : LinkState × Nat × Option Int :=
  (t.ptab[(3 : Station)].link, t.ptab[(3 : Station)].inBeat, t.ptab[(3 : Station)].silenceExpiry)

theorem test_hand_off_first_beacon :
    shown (did .handOff (handing PeerRecord.reset (beat 40 100001000 1280))) = (.listening, 1, some 151563468) := by
  decide +kernel

theorem test_hand_off_beat_test :
    shown (did .handOff (handing (peer3 .listening 1 40 100000968) (beat 41 112504578 144400))) = (.admitted, 2, some 164063468)
      ∧ shown (did .handOff (handing (peer3 .admitted 2 41 112500968) (beat 42 137501000 1280))) = (.listening, 1, some 189063468)
      ∧ shown (did .handOff (handing (peer3 .admitted 2 43 150000968) (beat 45 175001000 1280))) = (.admitted, 2, some 226563468)
      ∧ shown (did .handOff (handing (peer3 .admitted 2 45 175000968) (beat 46 176001000 1280))) = (.barred, 0, none)
      ∧ (did .handOff (handing (peer3 .admitted 2 45 175000968) (beat 46 176001000 1280))).ptab[(3 : Station)].barExpiry
        = some 376001400 := by decide +kernel

theorem test_bar_expiry :
    shown (did (.barExpiry 3)
      ((atTick 376001400).setPeer 3
        { peer3 .barred 0 45 175000968 with barExpiry := some 376001400, silenceExpiry := none }))
      = (.listening, 0, some 427563900) := by decide +kernel

/-- R48: 60 intervals of 12,500,000 ticks on. -/
theorem test_silence_expiry_of_an_admitted_record :
    shown (did (.silenceExpiry 3) ((atTick 151563468).setPeer 3 (peer3 .admitted 2 40 100000968)))
      = (.silent, 0, some 901563468) := by decide +kernel

/-- 3.11, An observation and its rebase. -/
theorem test_observation :
    (fun o : Observation => (o.theta, o.eps0, o.thetaP))
      (observationOf { ProfileAttrs.default with pathDelay := 350 }
        { beat 1 0 0 with launch := 86400250001050, stamp := 86400250000000, phaseTotal := 12345 }) = (1400, 780, 13745) := by
  decide +kernel

theorem test_rebase_notice :
    ((did .rebaseNotice
      ((s11.setPeer 3
        { peer3 .admitted 2 1 0 with
          obs := some { observationOf ProfileAttrs.default (beat 1 0 0) with theta := 1400, eps0 := 780, thetaP := 13745 } }).onNet
        fun n => { n with rebase := [-2500] })).ptab[(3 : Station)].obs.map fun o => (o.theta, o.eps0, o.thetaP))
      = some (3900, 780, 16245) := by decide +kernel

/-- 3.11, Three dissents: the fourth close. -/
theorem test_dissent_notice_bars_at_the_third :
    (fun t : State => (t.ptab[(3 : Station)].link, t.ptab[(3 : Station)].dissent, t.ptab[(3 : Station)].barExpiry, t.net.toDmon))
      (did .dissentNotice
        (((atTick 1000).setPeer 3 { peer3 .admitted 2 1 0 with dissent := 2 }).onNet fun n =>
          { n with dissent := [{ dissenters := [3], agreeing := [7, 11] }] }))
      = (.barred, 0, some 200001000, [.leave 3]) := by decide +kernel

/-! ## Chapter 4 -/

/-- The intervals of 4.8, A five-interval round. -/
def five : List Interval :=
  [{ who := 3, lo := -700, hi := 2500 }, { who := 7, lo := 300, hi := 2500 }, { who := 11, lo := -2100, hi := 2100 },
    { who := 12, lo := -2100, hi := 900 }, { who := 20, lo := 8300, hi := 9700 }]

theorem test_sweep_of_the_five_interval_round : sweep five = (4, some (300, 900)) := by decide +kernel

/-- R74: two regions of the same count and equally near; the lower one is taken. -/
theorem test_sweep_takes_the_lower_of_two :
    sweep [{ who := 1, lo := -900, hi := -100 }, { who := 2, lo := 100, hi := 900 }] = (1, some (-900, -100)) := by
  decide +kernel

/-- 4.8: C 600, h 300, the phase 805, the base 980. -/
theorem test_agreed_correction :
    agreedCorrection (withBase 600 s11) 300 900
      = { posting := .phase 805, application := .slew, corr := some 600, h := some 300, base := some 980 } := by decide +kernel

/-- 4.8, A cold row start: station 3's first AGREED close; K stands for 86,270,000,000,000 ns. -/
theorem test_agreed_correction_forced_step :
    agreedCorrection s11 86270000188400 86270000238100
      = { posting := .step 86270000213250, application := .step, corr := some 86270000213250, h := some 24850
          base := some 24930 } := by decide +kernel

/-- 6.10: an anchor follow of 1,262 ns posts 1,694 units and sets the base to 1,542. -/
theorem test_anchor_correction :
    anchorCorrection ((withBase 600 s11).onAnch fun a => { a with state := .qualified, alpha := some 1262, uRef := 200 })
      = { posting := .phase 1694, application := .anchorFollow, corr := some 1262, h := none, base := some 1542 } := by
  decide +kernel

/-- R75, R76: alone, a set station finds one interval: SPARSE and LONE, phase 0 (4.8, A cold row start). -/
theorem test_round_close_alone :
    (fun t : State => (t.agu.record.outcome, t.agu.record.n, t.agu.sync, t.net.postAgu, t.agu.roundTimer))
      (did .roundClose ((inSync .lone (withBase 500080 s11)).onAgu fun a => { a with roundTimer := some 0 }))
      = (.sparse, some 1, .lone, [.phase 0], some 12500000) := by decide +kernel

/-- R81: two accusers of two ADMITTED peers make the station HUMBLE and raise SELF_ACCUSED. -/
theorem test_round_close_accused :
    (fun t : State => (t.agu.humble, t.net.warn))
      (did .roundClose
        (((s11.setPeer 3 { peer3 .admitted 2 1 0 with accusesMe := true }).setPeer 4
          { peer3 .admitted 2 1 0 with accusesMe := true }).onAgu fun a => { a with sync := .holdover, roundTimer := some 0 }))
      = (true, [.raise .selfAccused 0]) := by decide +kernel

/-- 9.7: the round close after the end of LISTEN at 40,500,000 is due at 53,000,000. -/
theorem test_end_of_listen :
    (fun t : State => (t.agu.sync, t.agu.roundTimer, t.net.roundStart))
      (did .endOfListen ((inSync .listen (atTick 40500000)).onAgu fun a => { a with endListen := some 40500000 }))
      = (.lone, some 53000000, [{ tick := 40500000, first := true }]) := by decide +kernel

theorem test_step_notice_at_agu :
    (fun t : State => (t.agu.stepped, t.agu.stepTick, t.net.rebase))
      (did .stepNoticeAtAgu ((atTick 900).onNet fun n => { n with stepAgu := [-2500] })) = (true, some 900, [-2500]) := by
  decide +kernel

/-! ## Chapter 5 -/

/-- 5.8: seven of the eight samples that fill peer 20's window before review 1, with t0 = 0. -/
def seven : List (Tick × Int) :=
  [(0, 9000), (12500000, 10500), (25000000, 12000), (37500000, 13500), (50000000, 15000), (62500000, 16500), (75000000, 18000)]

/-- 5.8: the eighth sample gives 3,000 ppb, and the L half stays. -/
theorem test_sample_computes_the_rate :
    (fun r : DriftRecord => (r.rate, r.fresh, r.window.length))
      (did .sample
        ((s11.setDrift 20 { DriftRecord.reset with window := seven }).onNet fun n =>
          { n with toDmon := [.sample 20 87500000 19500] })).dmon.drift[(20 : Station)] = (some 3000, true, 4) := by decide +kernel

/-- 5.8, A step and the windows: the sample of peer 12 from before the step. -/
theorem test_sample_before_the_step_is_discarded :
    (did .sample
      ((s11.onDmon fun m => { m with stepTick := some 1000000 }).onNet fun n =>
        { n with toDmon := [.sample 12 970000 5] })).dmon.drift[(12 : Station)].window = [] := by decide +kernel

theorem test_leave_notice :
    (fun r : DriftRecord => (r.window, r.rate, r.fresh))
      (did .leaveNotice
        ((s11.setDrift 20 { DriftRecord.reset with window := seven, rate := some 3000, fresh := true }).onNet fun n =>
          { n with toDmon := [.leave 20] })).dmon.drift[(20 : Station)] = ([], some 3000, false) := by decide +kernel

theorem test_window_notice :
    (fun r : DriftRecord => (r.window, r.rate, r.fresh))
      (did .windowNotice
        ((s11.setDrift 20 { DriftRecord.reset with window := seven, rate := some 3000, fresh := true }).onNet fun n =>
          { n with toDmon := [.window 20] })).dmon.drift[(20 : Station)] = ([], some 3000, true) := by decide +kernel

theorem test_step_notice_at_dmon :
    (fun t : State => (t.dmon.drift[(20 : Station)].window, t.dmon.stepTick))
      (did .stepNoticeAtDmon
        (((atTick 77).setDrift 20 { DriftRecord.reset with window := seven }).onNet fun n => { n with stepDmon := [-2500] }))
      = ([], some 77) := by decide +kernel

/-- A peer with a fresh rate and a verdict, ADMITTED. -/
def rated (p : Station) (rate : Int) (v : Verdict) (s : State) : State :=
  (s.setDrift p { DriftRecord.reset with rate := some rate, fresh := true, verdict := v }).setPeer p (peer3 .admitted 2 1 0)

/-- The state before a review of 5.8. -/
def beforeReview (r3 r7 r12 r20 : Int) (trim : Int) (v : Verdict) : State :=
  ((rated 3 r3 .steady (rated 7 r7 .steady (rated 12 r12 .steady (rated 20 r20 v s11)))).onEclk fun e =>
      { e with trim := trim }).onDmon fun m => { m with reviewTimer := some 0 }

/-- 5.8, review 1: ρref = 5, peer 20 SUSPECT with d 2,995, the own d -5, and a trim of 2 units. -/
theorem test_review_one :
    (fun t : State =>
        (t.dmon.review.ref, t.dmon.drift[(20 : Station)].verdict, t.dmon.drift[(20 : Station)].d, t.dmon.ownD, t.net.postDmon,
          t.dmon.warnings))
      (did .review (beforeReview 12 (-8) 5 3000 0 .steady)) = (some 5, .suspect, 2995, -5, [.trim 2], []) := by
  decide +kernel

/-- 5.8, review 2: ρref = 4, peer 20 DRIFTING with d 3,008, PEER_DRIFTING raised, and a trim of 3 units. -/
theorem test_review_two :
    (fun t : State =>
        (t.dmon.drift[(20 : Station)].verdict, t.net.postDmon, t.dmon.warnings.map fun w => (w.kind, w.subject, w.value)))
      (did .review (beforeReview 10 (-6) 4 3012 2 .suspect))
      = (.drifting, [.trim 3], [(.peerDrifting, .peer 20, 3008)]) := by decide +kernel

/-- 5.8, The list under several blocks: OVERFLOW at 1,200.500 and again at 1,200.700. -/
theorem test_raise_notice :
    ((did (.raiseNotice .overflow)
      ((did (.raiseNotice .overflow)
        (s11.sendWarn [.raise .overflow 1200500000000])).sendWarn [.raise .overflow 1200700000000])).dmon.warnings.map Warning.time)
      = [1200500000000] := by decide +kernel

theorem test_removal_notice :
    (did (.removalNotice .overflow)
      ((did (.raiseNotice .overflow)
        (s11.sendWarn [.raise .overflow 1200500000000])).sendWarn [.remove .overflow])).dmon.warnings = [] := by decide +kernel

/-! ## Chapter 6 -/

/-- ANCH with a pulse found on this tick and stamped with this time. -/
def pulsing (a : Anch) (tick ns : Nat) : State :=
  { (atTime ns (inSync .holdover (atTick tick))) with anch := { a with pulses := [{ tick := tick, stamp := ns }] } }

/-- ARMED with s and u_ref of 6.10. -/
def armed610 : Anch := { Anch.reset with state := .armed, s := some 1700000000, uRef := 200 }

/-- 6.10: the lead pulse at P = 1,000,000. -/
theorem test_lead_pulse :
    (fun a : Anch => (a.alpha, a.s, a.good, a.window))
      (did .pulse (pulsing armed610 1000000 1699999999999998750)).anch
      = (some 1250, some 1700000001, 0, some { expected := 26000000, half := 1375, missed := false }) := by decide +kernel

/-- 6.10, A spike: at Q + 24,400,000 with the window on Q + 25,000,000, Q = 0. -/
theorem test_early_pulse_is_a_miss :
    (fun a : Anch => (a.state, a.miss, a.window))
      (did .pulse
        (pulsing { armed610 with state := .qualified, window := some { expected := 25000000, half := 1375, missed := false } }
          24400000 0)).anch
      = (.qualified, 1, some { expected := 25000000, half := 1375, missed := true }) := by decide +kernel

/-- 6.10, A cable pulled: the second window end in a row loses the anchor. -/
theorem test_window_end_loses_the_anchor :
    (fun t : State => (t.anch.state, t.anch.miss, t.anch.window, t.net.warn))
      (did .windowEnd
        { (atTick 75001380) with
          anch :=
            { armed610 with
              state := .qualified, miss := 1, window := some { expected := 75000004, half := 1375, missed := false } } })
      = (.lost, 0, none, [.raise .anchorLost 0]) := by decide +kernel

/-- 6.6, the second row: a pulse stamped 1,250 ns before second 1,700,000,000 and taken after a step of C = 2,500 and its notice
leaves α at 1,250, which is C too high. -/
theorem test_pulse_stamped_before_a_step_taken_after :
    (fun t : State => (t.anch.alpha, clockNs t))
      (did .pulse (did .stepNoticeAtAnch
        ((atTime 1700000000000001250 (pulsing armed610 1000000 1699999999999998750)).onNet fun n =>
          { n with stepAnch := [2500] })))
      = (some 1250, 1700000000000001250) := by decide +kernel

/-- R110: a pulse found on a losing window's end tick waits, and is the lead pulse of the ANCHOR given before it is taken. -/
theorem test_pulse_after_a_loss_leads :
    (fun t : State => (t.anch.state, t.anch.s, t.anch.pulses))
      (did .pulse (did (.anchor 50 200) (did .windowEnd (pulsing
        { armed610 with
          state := .qualified, miss := 1, window := some { expected := 25000000, half := 1375, missed := false } }
        25001376 0))))
      = (.armed, some 51, []) := by decide +kernel

theorem test_step_notice_at_anch :
    (did .stepNoticeAtAnch
      ({ s11 with anch := { armed610 with alpha := some 1262 } }.onNet fun n => { n with stepAnch := [-2500] })).anch.alpha
      = some 3762 := by decide +kernel

/-! ## Chapter 7 -/

/-- A capture entry on line 3, stamped with this time. -/
def entry (tick : Tick) (ts : Int) (unc : Nat) (st : EntryState) : CapEntry where
  line := 3
  edge := .rising
  tick := tick
  ts := ts
  unc := unc
  sync := .holdover
  unset := false
  humble := false
  muted := false
  anchored := true
  osc := .primary
  label := some 512
  followers := 0
  state := st
  rebased := 0

/-- A state with a capture queue. -/
def queued (es : List CapEntry) (s : State) : State := s.onCapu fun c => { c with queue := es }

/-- Line 1 enabled, with a guard time of 10,000 ns. -/
def line1On (s : State) : State :=
  s.onSvc fun v =>
    { v with image := { v.image with lines := v.image.lines.set 1 { enabled := true, edge := .rising, guardNs := 10000 } } }

/-- A rising edge found on line 1 on this tick. -/
def edgeOn1 (s : State) : State := s.onCapu fun c => c.setLine 1 { c.lines[(1 : CapLineNo)] with found := some .rising }

/-- 7.12, A burst into a full queue: a capture on line 1 carries the label and opens the guard for 250 ticks. -/
theorem test_edge_stores_a_capture :
    (fun t : State =>
        (t.capu.queue.map fun e => (e.line, e.tick, e.label, e.unc), t.capu.lines[(1 : CapLineNo)].latch,
          t.capu.lines[(1 : CapLineNo)].guard))
      (did .edgeOfInterest
        (edgeOn1
          (line1On
            (inSync .agreed (withBase 3000 (atTick 100)) |>.onCapu fun c =>
              c.setLine 1 { c.lines[(1 : CapLineNo)] with latch := some 4117 }))))
      = ([(1, 100, some 4117, 3040)], none, some { closing := 350, link := some 0 }) := by decide +kernel

/-- 7.12, A burst into a full queue: the capture at S + 700. -/
theorem test_edge_overflows_the_queue :
    (fun t : State =>
        (t.capu.queue.length, (t.capu.queue.getLast?).map CapEntry.followers, t.capu.lines[(1 : CapLineNo)].guard, t.net.warn))
      (did .edgeOfInterest
        (edgeOn1 (line1On (queued (List.replicate 64 (entry 0 0 0 .settled)) (inSync .agreed (atTick 700))))))
      = (64, some 1, some { closing := 950, link := some 63 }, [.raise .overflow 0]) := by decide +kernel

theorem test_guard_close :
    (did (.guardClose 1)
      ((atTick 350).onCapu fun c =>
        c.setLine 1 { c.lines[(1 : CapLineNo)] with guard := some { closing := 350, link := some 0 } })).capu.lines[(1 : CapLineNo)].guard
      = none := by decide +kernel

/-- 7.12, A step with three queued entries: E2 settles at K + 1,759 and not a tick before, the clock then reading
X + 40 × 1,759 and X + 40 × 1,758 with X = 86,500.299964000; K = 400,000,000. -/
def e2At (m : Nat) : State :=
  queued [entry 399997500 86500299864000 90040 .pending]
    (atTime (86500299964000 + 40 * m)
      { (withBase 80280 (atTick 400000000)) with osc := { selection := .primary, tick := 400000000 + m } })

theorem test_settle :
    (did (.settle 0) (e2At 1758)).capu.queue.map CapEntry.state = [.pending]
      ∧ (did (.settle 0) (e2At 1759)).capu.queue.map CapEntry.state = [.settled] := by decide +kernel

/-- R133: the settle limit of 2 s is 50,000,000 ticks (R5). -/
theorem test_overdue :
    (did (.overdue 0) (queued [entry 100 0 0 .pending] (atTick 50000099))).capu.queue.map CapEntry.state = [.pending]
      ∧ (did (.overdue 0) (queued [entry 100 0 0 .pending] (atTick 50000100))).capu.queue.map CapEntry.state = [.overdue] := by
  decide +kernel

/-- 7.12: E2 after the step notice of C = -80,000. -/
theorem test_step_notice_at_capu :
    ((did .stepNoticeAtCapu
      ((queued [entry 1 86500299864000 90040 .pending] s11).onNet fun n => { n with stepCapu := [{ tick := 0, c := -80000 }] })).capu.queue.map
      fun e => (e.ts, e.rebased)) = [(86500299784000, 1)] := by decide +kernel

/-- 7.6: on the boundary tick an edge still to be stamped comes before the step notice: its entry gets b and is then rebased. -/
theorem test_step_notice_at_capu_after_the_edge :
    let s := (edgeOn1 (line1On (queued [] (inSync .agreed (atTime 900 s11))))).sendStep (-500)
    let t := did .stepNoticeAtCapu (did .edgeOfInterest (did .stepNoticeAtCapu (atTime 400 s)))
    t.capu.queue.map (fun e => (e.ts, e.rebased)) = [(400, 1)] := by decide +kernel

theorem test_head_standing_report :
    (did .headStandingReport (queued [entry 1 0 0 .settled] s11)).svc.capCond = true
      ∧ (did .headStandingReport (queued [entry 1 0 0 .pending] s11)).svc.capCond = false := by decide +kernel

/-! ## Chapter 8 -/

/-- Entry 2 of 8.8: FINITE, 100 ms, count 3, mark line 1, 10,000 ns wide, AGREED_ONLY, chain 5. -/
def settlePulses : StageArgs where
  entry := 2
  mode := 1
  fire := some (86600, 0)
  period := 100000000
  count := 3
  reload := 1
  output := 1
  width := 10000
  guard := 1
  bound := 0
  chain := 5
  report := false

/-- Entry 5 of 8.8: CYCLIC, 50 ms, count 4, reload 4, mark line 2, 1,000 ns wide, BOUND 20,000, report. -/
def gate : StageArgs where
  entry := 5
  mode := 2
  fire := some (86600, 250000000)
  period := 50000000
  count := 4
  reload := 4
  output := 2
  width := 1000
  guard := 2
  bound := 20000
  chain := 0xFF
  report := true

/-- The response of a request is placed, so that the next one is taken. -/
def placed (s : State) : State := did .fullResponsePlaced s

/-- 8.8 after the two STAGE requests and the ARM of entry 2, given at 86,599.7. -/
def armed88 : State :=
  placed (did (.arm 2) (placed (did (.stage gate) (placed (did (.stage settlePulses)
    (inSync .agreed (withBase 3000 (atTime 86599700000000 s11))))))))

/-- What 8.8 shows of an entry. -/
def live (n : EntryNo) (t : State) : Bool × Nat × Nat × Bool :=
  (t.msch.entries[n].armed, t.msch.entries[n].live.count, t.msch.entries[n].fire, t.msch.entries[n].staged)

theorem test_stage_and_arm :
    live 2 armed88 = (true, 3, 86600000000000, false) ∧ live 5 armed88 = (false, 0, 0, true)
      ∧ armed88.msch.entries[(5 : EntryNo)].staging.width = 25 := by decide +kernel

/-- 8.8 at .000000000: the first settle pulse. -/
theorem test_fire_drives_the_mark :
    (fun t : State => (live 2 t, t.msch.lines[(1 : MarkLineNo)]))
      (did (.fire 2) (atTime 86600000000000 armed88))
      = ((true, 2, 86600100000000, false), { release := some 250, high := true }) := by decide +kernel

/-- 8.8 at .200000000: the third fire in HOLDOVER is suppressed, entry 2 completes and chains to entry 5. -/
theorem test_fire_suppressed_completes_and_chains :
    (fun t : State => (live 2 t, t.msch.entries[(2 : EntryNo)].suppressed, t.msch.entries[(2 : EntryNo)].completion, live 5 t))
      (did (.fire 2)
        (atTime 86600200000000
          (inSync .holdover (did (.fire 2) (atTime 86600100000000 (did (.fire 2) (atTime 86600000000000 armed88)))))))
      = ((false, 0, 86600300000000, false), 1, true, (true, 4, 86600250000000, false)) := by decide +kernel

/-- 8.8: entry 5 ARMED with count 4 at .700 (LATE and the skips are the test's), caught up by a step to 86,600.811000020. -/
theorem test_step_notice_at_msch_catches_up :
    (fun t : State => (live 5 t, t.msch.entries[(5 : EntryNo)].late, t.msch.entries[(5 : EntryNo)].skipped))
      (did .stepNoticeAtMsch
        (atTime 86600811000020
          ((did (.arm 5)
              (placed (did (.stage { gate with fire := some (86600, 700000000), period := 100000000 })
                (inSync .agreed (withBase 3000 (atTime 86600651000020 s11)))))).onNet fun n =>
            { n with stepMsch := [{ tick := 0, c := 160000000 }] })))
      = ((true, 3, 86600900000000, false), true, 1) := by decide +kernel

theorem test_mark_release :
    (did (.markRelease 1)
      ((atTick 250).onMsch fun m => { m with lines := m.lines.set 1 { release := some 250, high := true } })).msch.lines[
        (1 : MarkLineNo)].high = false := by decide +kernel

theorem test_schedule_report :
    (did .scheduleReport
      (s11.onMsch fun m => m.setEntry 2 { SchedEntry.reset with completion := true })).svc.schedCond = true := by decide +kernel

/-! ## Chapter 9 -/

/-- The status word of the full response. -/
def status (s : State) : Option Status := s.svc.response.map FullResponse.status

/-- 9.7, Bringing a station up: the step threshold is clamped, the other items are as given. -/
theorem test_configure_clamps :
    (fun t : State =>
        (status t, t.svc.image.ownTol, t.svc.image.stepThreshold, t.svc.image.windows[0].attrs.pathDelay,
          t.svc.image.lines[(0 : CapLineNo)].guardNs, t.svc.image.slewLimit))
      (did
        (.configure
          [{ selector := 0x01, index := 0, value := 2 }, { selector := 0x02, index := 0, value := 3 },
            { selector := 0x03, index := 0, value := 2000000000 }, { selector := 0x20, index := 0, value := 1 },
            { selector := 0x22, index := 0, value := 1000 }, { selector := 0x10, index := 0, value := 4 },
            { selector := 0x11, index := 0, value := 9 }, { selector := 0x12, index := 0, value := 350 }]) s11)
      = (some .ok, 3, 1000000000, 350, 1000, 200) := by decide +kernel

theorem test_configure_refusals :
    status (did (.configure [{ selector := 0x20, index := 8, value := 1 }]) s11) = some .badIndex
      ∧ status (did (.configure [{ selector := 0x10, index := 4, value := 1 }]) s11) = some .unknownRequest
      ∧ status (did (.configure []) (inSync .listen s11)) = some .wrongState := by decide +kernel

/-- 9.7: START at 3,000,000; LISTEN ends at 40,500,000 and the review timer stands at 403,000,000. -/
theorem test_start :
    (fun t : State => (t.agu.sync, t.agu.endListen, t.dmon.reviewTimer, t.ptab[(7 : Station)].profile, t.ptab[(10 : Station)].profile))
      (did .start
        ((atTick 3000000).onSvc fun v =>
          { v with image := { v.image with windows := v.image.windows.set 0 { first := 4, last := 9, attrs := ProfileAttrs.default } } }))
      = (.listen, some 40500000, some 403000000, some (.window 0), some .dflt) := by decide +kernel

/-- 2.10, A number strapped twice: RESTART reads the corrected straps and clears MUTED. -/
theorem test_restart :
    (fun t : State => (t.svc.station, t.span.mutedFlag, t.agu.sync, status t))
      (did (.restart { stn := 10, ft := 1 }) ((inSync .agreed s11).onSpan mute)) = (10, false, .config, some .ok) := by
  decide +kernel

/-- 1.10 and 4.8: u = 520 sets the base to 600; the step is v - the clock. -/
theorem test_settime :
    (fun t : State => (t.agu.base, t.agu.unset, t.net.postSvc))
      (did (.settime 100 997500 520) (atTime 100001000000 s11)) = (600, false, [.step (-2500)]) := by decide +kernel

theorem test_anchor :
    (fun t : State => (t.anch.state, t.anch.s, t.anch.uRef))
      (did (.anchor 1700000000 2000000) (inSync .holdover s11)) = (.armed, some 1700000000, 1000000) := by decide +kernel

/-- 9.7 at 9,000,000: LISTEN, UNSET, U UNBOUNDED, PRIMARY; tick and clock in front (R181). -/
theorem test_date :
    (did .date (inSync .listen (atTick 9000000))).svc.response
      = some
        { status := .ok
          body := [0, 0, 0, 0, 0, 0x89, 0x54, 0x40, 0, 0, 0, 0, 0, 0, 0, 0, 0, 0, 0xFF, 0xFF, 0xFF, 0xFF, 1, 8, 0] } := by
  decide +kernel

theorem test_peek_at_an_empty_queue :
    (did .peek s11).svc.response = some { status := .empty, body := [0, 0, 0, 0, 0, 0, 0, 0, 0] } := by decide +kernel

/-- 7.12 at K + 1,500: NOT_SETTLED, 3 entries; and at K + 1,000: the head leaves. -/
theorem test_take :
    (did .take (queued [entry 1 0 0 .pending, entry 2 0 0 .pending, entry 3 0 0 .pending] s11)).svc.response
      = some { status := .notSettled, body := [0, 0, 0, 0, 0, 0, 0, 0, 3] }
      ∧ (did .take (queued [entry 1 0 0 .settled, entry 2 0 0 .pending] s11)).capu.queue.map CapEntry.tick = [2] := by
  decide +kernel

theorem test_label : (did (.label 1 4117) s11).capu.lines[(1 : CapLineNo)].latch = some 4117 := by decide +kernel

/-- 8.8: STOP to entry 2 leaves it IDLE without completing. -/
theorem test_stop :
    (fun t : State => (live 2 t, t.msch.entries[(2 : EntryNo)].completion)) (did (.stop 2) armed88)
      = ((false, 3, 86600000000000, false), false) := by decide +kernel

theorem test_entry_clears_the_completion_flag :
    (did (.entry 2) (s11.onMsch fun m => m.setEntry 2 { SchedEntry.reset with completion := true })).msch.entries[
      (2 : EntryNo)].completion = false := by decide +kernel

/-- R180: the body opens with the 8-byte tick; then come station 11, F 1 and the strap code 1. -/
theorem test_status :
    ((did .status s11).svc.response.map fun r => (r.status, r.body.take 11))
      = some (.ok, [0, 0, 0, 0, 0, 0, 0, 0, 11, 1, 1]) := by decide +kernel

theorem test_peer_of_the_own_number_is_refused :
    status (did (.peer 11) s11) = some .badIndex ∧ status (did (.peer 32) s11) = some .badIndex
      ∧ status (did (.peer 12) s11) = some .ok := by decide +kernel

theorem test_warnings_clears_the_flag :
    (did .warnings (s11.onSvc fun v => { v with warningsChanged := true })).svc.warningsChanged = false := by decide +kernel

theorem test_attention :
    ((did (.attention 0x05) (s11.onSvc fun v => { v with capCond := true })).svc.response.map fun r => r.body.drop 8)
      = some [5, 1] := by decide +kernel

/-- 9.7, A lost request. -/
theorem test_lost_request :
    (fun t : State => (t.svc.buffer.status, t.svc.buffer.code, t.svc.buffer.overrun)) (did .date (did .status s11))
      = (.notReady, 0x30, true) := by decide +kernel

theorem test_overrun_and_placing :
    (fun t : State => (t.svc.buffer.status, t.svc.buffer.overrun, t.svc.request))
      (did .fullResponsePlaced (did .overrun (did .status s11))) = (.ok, true, none) := by decide +kernel

/-- R167, R170: ARM of entry 2 with three clocks more; the same without its last clock, one argument byte short; and seven clocks. -/
theorem test_transaction_bits :
    let arm := [false, false, true, false, false, false, false, true, false, false, false, false, false, false, true, false]
    transactionEnded { stn := 11, ft := 1 } false (arm ++ [true, true, true]) = some (.request (.arm 2))
      ∧ transactionEnded { stn := 11, ft := 1 } false (arm.take 15) = some (.request (.unknownRequest 0x21))
      ∧ transactionEnded { stn := 11, ft := 1 } false (arm.take 7) = some .read := by decide +kernel

theorem test_unknown_request :
    status (did (.unknownRequest 0x40) s11) = some .unknownRequest := by decide +kernel

/-! ## Witnesses: the machine and its invariants -/

theorem witness_StepRunsTheFrontCommand : s11.pending = [] := by decide +kernel

/-- ANCHOR in HOLDOVER answers a next state and is no TICK and no FULL_RESET. -/
theorem witness_OnlyTickAndResetMoveTime :
    exec (.anchor 5 0) (inSync .holdover s11) = .next (did (.anchor 5 0) (inSync .holdover s11))
      ∧ (∀ caps ref, Instr.anchor 5 0 ≠ .tick caps ref) ∧ ∀ straps, Instr.anchor 5 0 ≠ .fullReset straps :=
  ⟨rfl, nofun, nofun⟩

/-- One command for each clause: a DATE on BACKUP with UNSET clear, a SETTIME that clears UNSET and sets the base, a RESTART of a
MUTED station, and a completion. -/
theorem witness_LatchedStandings :
    (did .date { (withBase 600 s11) with osc := { selection := .backup, tick := 0 } }).osc.selection = .backup
      ∧ (withBase 600 s11).agu.unset = false
      ∧ (did (.settime 1 0 520) s11).agu.unset ≠ s11.agu.unset ∧ (did (.settime 1 0 520) s11).agu.base ≠ s11.agu.base
      ∧ (s11.onSpan mute).span.tx = .muted ∧ (did (.restart { stn := 11, ft := 1 }) (s11.onSpan mute)).span.tx ≠ .muted
      ∧ (did .beaconCompletion ((spanAt .sending 1001026 0).onSpan fun sp => { sp with frame := some beacon20, sent := 224 })).span.seq
        ≠ (0 : BitVec 8) := by decide +kernel

/-- A station in LONE with terms at their limits and values pending in every slot. -/
def busyClock : State :=
  (atTime 281474976710655999999999 (inSync .lone s11)).onEclk fun e =>
    { e with
      sub := 16777215, trim := -67108, phase := 134217, phaseSlot := some (-134217), trimSlot := some 67108
      stepSlot := some (-5) }

theorem clockBounds_s11 : ClockBounds s11 := by
  refine ⟨by decide +kernel, by decide +kernel, by decide +kernel, by decide +kernel, by decide +kernel, by decide +kernel,
    by decide +kernel, ?_, fun _ => ⟨by decide +kernel, by decide +kernel, by decide +kernel, Or.inr ?_⟩⟩
  · unfold SettingsInRange AttrsInRange; decide +kernel
  · intro src v; cases src <;> simp [s11, State.resetWith, InFlight.empty, InFlight.postings]

theorem clockBounds_busyClock : ClockBounds busyClock := by
  refine ⟨by decide +kernel, by decide +kernel, by decide +kernel, by decide +kernel, by decide +kernel, by decide +kernel,
    by decide +kernel, ?_, fun h => absurd h (by decide +kernel)⟩
  unfold SettingsInRange AttrsInRange; decide +kernel

theorem witness_ClockBoundsKept :
    ClockBounds { busyClock with pending := [.tick 0 false] }
      ∧ (∃ t, step { busyClock with pending := [.tick 0 false] } = .next t)
      ∧ PortStanding { (did .date s11) with pending := [.fullResponsePlaced] }
      ∧ ∃ t, step { (did .date s11) with pending := [.fullResponsePlaced] } = .next t :=
  ⟨clockBounds_busyClock, next_of_isNext (by decide +kernel), by unfold PortStanding; decide +kernel,
    next_of_isNext (by decide +kernel)⟩

/-- Station 11 at the end of LISTEN, with the command that ends it. -/
def endingListen : State :=
  { placed (did .start s11) with osc := { selection := .primary, tick := 37500000 }, pending := [.endOfListen] }

theorem witness_SpanStandingKept :
    SpanStanding { inSync .lone (spanAt .deferring 1000064 32) with pending := [.transmissionStart] }
      ∧ (∃ t, step { inSync .lone (spanAt .deferring 1000064 32) with pending := [.transmissionStart] } = .next t)
      ∧ AgreementStanding endingListen ∧ (after (step endingListen)).agu.sync = .lone ∧ ∃ t, step endingListen = .next t :=
  ⟨by unfold SpanStanding; decide +kernel, next_of_isNext (by decide +kernel),
    by unfold AgreementStanding; decide +kernel, by decide +kernel, next_of_isNext (by decide +kernel)⟩

/-- A peer table of station 11 in which only the record of peer 3 is not as after a reset. -/
theorem peerTable_of (r : PeerRecord) (s : State) (hr : PeerRecordStanding r) (ht : s.ptab = s11.ptab.set 3 r)
    (hs : s.svc.station = 11) (hn : ∀ h ∈ s.net.handOffs, h.station ≠ 11) : PeerTableStanding s := by
  have h11 : (s11.ptab.set 3 r)[(11 : Station)].link = .absent := by simp [s11, State.resetWith, PeerRecord.reset]
  refine ⟨fun p => ?_, by simpa only [ht, hs] using h11, fun h hh => hs ▸ hn h hh⟩
  · rw [ht]
    by_cases hp : p = 3
    · subst hp; simpa using hr
    · have : (3 : Nat) ≠ p.val := fun h => hp (Fin.ext h.symm)
      simp [this, s11, State.resetWith, PeerRecordStanding, PeerRecord.reset]

/-- The standing of the records of peer 3 that the witnesses use. -/
theorem peer3_standing (seq : BitVec 8) (sched : Int) :
    PeerRecordStanding (peer3 .listening 0 seq sched) ∧ PeerRecordStanding (peer3 .listening 1 seq sched)
      ∧ PeerRecordStanding { peer3 .admitted 2 seq sched with dissent := 2 } ∧ PeerRecordStanding (peer3 .silent 0 seq sched)
      ∧ PeerRecordStanding { peer3 .barred 0 seq sched with barExpiry := some 376001400, silenceExpiry := none } := by
  simp [PeerRecordStanding, peer3]

theorem peer3_admitted (seq : BitVec 8) (sched : Int) : PeerRecordStanding (peer3 .admitted 2 seq sched) := by
  simp [PeerRecordStanding, peer3]

theorem handing_standing (r : PeerRecord) (h : HandOff) (hr : PeerRecordStanding r) (hs : h.station = 3) :
    PeerTableStanding (handing r h) :=
  peerTable_of r _ hr rfl rfl (by simp [handing, State.onNet, hs])

/-- ARMED with two good pulses counted, and the third in its window. -/
def qualifying : State :=
  { (pulsing
      { armed610 with
        alpha := some 3, good := 2, lastGood := some 0
        window := some { expected := 25000000, half := 1375, missed := false } }
      25000000 1699999999999998750) with
    pending := [.pulse] }

theorem witness_PeerTableKept :
    PeerTableStanding { handing (peer3 .admitted 2 45 175000968) (beat 46 176001000 1280) with pending := [.handOff] }
      ∧ (∃ t, step { handing (peer3 .admitted 2 45 175000968) (beat 46 176001000 1280) with pending := [.handOff] } = .next t)
      ∧ AnchorStanding qualifying ∧ (after (step qualifying)).anch.state = .qualified ∧ ∃ t, step qualifying = .next t :=
  ⟨peerTable_of (peer3 .admitted 2 45 175000968) _ (peer3_admitted _ _) rfl rfl (by decide +kernel),
    next_of_isNext (by decide +kernel), by unfold AnchorStanding; decide +kernel, by decide +kernel,
    next_of_isNext (by decide +kernel)⟩

/-- The full queue of 7.12 with an edge found on line 1, at the last tick the premise admits. -/
def fullQueue : State :=
  edgeOn1 (line1On (queued (List.replicate 64 (entry 0 0 0 .settled)) (inSync .agreed (atTick 18446744073709551614))))

theorem witness_CaptureQueueKept :
    CaptureStanding { fullQueue with pending := [.edgeOfInterest] } ∧ fullQueue.osc.tick + 1 < 2 ^ 64
      ∧ ∃ t, step { fullQueue with pending := [.edgeOfInterest] } = .next t :=
  ⟨by unfold CaptureStanding; decide +kernel, by decide +kernel, next_of_isNext (by decide +kernel)⟩

/-- A list of two warnings and a raise of the second one's kind on its way. -/
def warned : State :=
  (s11.onDmon fun m =>
    { m with
      warnings :=
        [{ kind := .oscFallback, subject := .own, time := 1000, value := 0 },
          { kind := .peerDrifting, subject := .peer 20, time := 2000, value := 3008 }] }).sendWarn [.raise .overflow 1500]

theorem warnings_standing : WarningsStanding warned := by unfold WarningsStanding; decide +kernel

/-- Review 2 of 5.8, with the command that holds it. -/
def judging : State := { beforeReview 10 (-6) 4 3012 2 .suspect with pending := [.review] }

/-- Seven samples of peer 20 in the window, an eighth on its way and a frame of it behind that, at the last tick the premise
admits. -/
def sampling : State :=
  { (((atTick 18446744073709551614).setDrift 20 { DriftRecord.reset with window := seven }).sendDmon
        [.sample 20 87500000 19500]).onNet fun n => { n with handOffs := [beat 41 100000000 0] } with
    pending := [.sample] }

theorem witness_WarningListKept :
    WarningsStanding { warned with pending := [.raiseNotice .overflow] }
      ∧ (∃ t, step { warned with pending := [.raiseNotice .overflow] } = .next t)
      ∧ DriftStanding judging ∧ (after (step judging)).dmon.drift[(20 : Station)].verdict = .drifting
      ∧ (∃ t, step judging = .next t)
      ∧ ArrivalsInOrder sampling ∧ sampling.osc.tick + 1 < 2 ^ 64
      ∧ (after (step sampling)).dmon.drift[(20 : Station)].window.length = 4 ∧ ∃ t, step sampling = .next t :=
  ⟨warnings_standing, next_of_isNext (by decide +kernel), by unfold DriftStanding; decide +kernel, by decide +kernel,
    next_of_isNext (by decide +kernel), by unfold ArrivalsInOrder; decide +kernel, by decide +kernel, by decide +kernel,
    next_of_isNext (by decide +kernel)⟩

theorem schedule_armed88 : ScheduleStanding armed88 := by
  unfold ScheduleStanding EntryInRange ProgramInRange; decide +kernel

theorem schedule_of_pending (s : State) (q : List Instr) (h : ScheduleStanding s) : ScheduleStanding { s with pending := q } := h

theorem schedule_of_eclk (s : State) (ns : Nat) (h : ScheduleStanding s) : ScheduleStanding (atTime ns s) := h

theorem witness_ScheduleKept :
    ScheduleStanding { armed88 with pending := [.fire 2] }
      ∧ ∃ t, step { armed88 with pending := [.fire 2] } = .next t :=
  ⟨schedule_of_pending _ _ schedule_armed88, next_of_isNext (by decide +kernel)⟩

/-! ## Witnesses: bits -/

/-- A request with arguments and RESTART, whose straps are those that stand. -/
theorem witness_RequestsRoundTrip :
    WellFormed (.stage gate) = true ∧ (∀ st, Instr.stage gate = .restart st → st = { stn := 11, ft := 1 })
      ∧ encodeRequest (.stage gate) = some (0x20 :: encodeStage gate)
      ∧ WellFormed (.restart { stn := 11, ft := 1 }) = true
      ∧ (∀ st, Instr.restart { stn := 11, ft := 1 } = .restart st → st = { stn := 11, ft := 1 })
      ∧ encodeRequest (.restart { stn := 11, ft := 1 }) = some [0x03] :=
  ⟨by decide, nofun, by decide +kernel, by decide, by simp [eq_comm], by decide +kernel⟩

/-- The request codes of R180 and the no-request code. -/
def listedCodes : List Byte :=
  [0x00, 0x01, 0x02, 0x03, 0x04, 0x05, 0x10, 0x11, 0x12, 0x13, 0x20, 0x21, 0x22, 0x23, 0x30, 0x31, 0x32, 0x33]

/-- ARM, and 0 of its one argument byte; the codes beside the listed ones; a STAGE and an arm one byte short; a CONFIGURE of two
items one byte short; seven clocks, and the bits of two whole bytes. -/
theorem witness_ExtraAndMissingBytes :
    WellFormed (.arm 2) = true ∧ (∀ st, Instr.arm 2 = .restart st → st = { stn := 11, ft := 1 })
      ∧ encodeRequest (.arm 2) = some (0x21 :: [0x02]) ∧ 0 < [(0x02 : Byte)].length
      ∧ (∀ code ∈ [(0x06 : Byte), 0x0F, 0x14, 0x1F, 0x24, 0x2F, 0x34, 0xFF], code ∉ listedCodes)
      ∧ (List.replicate 36 (0 : Byte)).length < 37 ∧ ([] : List Byte).length < 1
      ∧ (List.replicate 11 (0 : Byte)).length < 6 * (0x02 : Byte).toNat
      ∧ (List.replicate 7 true).length < 8
      ∧ ∀ k < 16, [(0x21 : Byte), 0x02][k / 8]? = some (if k < 8 then 0x21 else 0x02) :=
  ⟨by decide, nofun, by decide +kernel, by decide, by decide, by decide, by decide, by decide, by decide, by decide⟩

/-- A beacon with every bounded field at its largest. -/
def largestBeacon : LaunchFields :=
  { beacon20 with
    stamp := 281474976710655999999999, deferral := 4294967295, statedUnc := 4294967295, accusations := some [0, 1, 2, 31] }

theorem witness_BeaconRoundTrip :
    largestBeacon.accusations = some [0, 1, 2, 31] ∧ [(0 : Station), 1, 2, 31].length ≤ 4 ∧ largestBeacon.deferral < 2 ^ 32
      ∧ largestBeacon.stamp ≤ 281474976710655999999999 ∧ largestBeacon.statedUnc < 2 ^ 32 := by decide +kernel

/-! ## Witnesses: ticks, postings and resets -/

/-- The units after a tick, counted from the second. -/
def unitsAfter (s : State) : Int := (s.eclk.ns : Int) * 2 ^ 24 + s.eclk.sub + (671088640 + s.eclk.trim + s.eclk.phase)

/-- From a full reset: 40 ns on, still before the first mark; and at the last tick the premise admits. -/
theorem witness_TickBetweenMarks :
    ClockBounds s11 ∧ s11.osc.tick + 1 < 2 ^ 64 ∧ unitsAfter s11 / 2 ^ 24 / 1000000 = (s11.eclk.ns : Int) / 1000000
      ∧ (atTick 18446744073709551614).osc.tick + 1 < 2 ^ 64 :=
  ⟨clockBounds_s11, by decide +kernel, by decide +kernel, by decide +kernel⟩

/-- The last ns of the clock's range, with a step pending, and without. -/
theorem witness_TickAtAMark :
    ClockBounds busyClock ∧ busyClock.osc.tick + 1 < 2 ^ 64
      ∧ unitsAfter busyClock / 2 ^ 24 / 1000000 ≠ (busyClock.eclk.ns : Int) / 1000000 ∧ busyClock.eclk.stepSlot = some (-5)
      ∧ ClockBounds (atTime 999999970 (inSync .lone s11)) ∧ (atTime 999999970 (inSync .lone s11)).eclk.stepSlot = none
      ∧ unitsAfter (atTime 999999970 (inSync .lone s11)) / 2 ^ 24 / 1000000
        ≠ ((atTime 999999970 (inSync .lone s11)).eclk.ns : Int) / 1000000 := by
  refine ⟨clockBounds_busyClock, by decide +kernel, by decide +kernel, by decide +kernel, ?_, by decide +kernel, by decide +kernel⟩
  refine ⟨by decide +kernel, by decide +kernel, by decide +kernel, by decide +kernel, by decide +kernel, by decide +kernel,
    by decide +kernel, ?_, fun h => absurd h (by decide +kernel)⟩
  unfold SettingsInRange AttrsInRange; decide +kernel

/-- A posting of each kind, with the hold clear and set. -/
theorem witness_PostingTaken :
    (s11.post .agu (.phase 134218)).net.postings .agu = .phase 134218 :: [] ∧ (s11.post .agu (.phase 134218)).eclk.hold = false
      ∧ (s11.post .dmon (.trim (-67109))).net.postings .dmon = .trim (-67109) :: []
      ∧ (s11.post .dmon (.trim (-67109))).eclk.hold = false
      ∧ ((s11.post .agu (.phase 1)).onEclk fun e => { e with hold := true }).net.postings .agu = .phase 1 :: []
      ∧ ((s11.post .agu (.phase 1)).onEclk fun e => { e with hold := true }).eclk.hold = true
      ∧ (s11.post .svc (.step (-2500))).net.postings .svc = .step (-2500) :: [] := by decide +kernel

/-- Each clause, the bound clause at u = UNBOUNDED - 1 and at the base tick itself. -/
theorem witness_FallbackAndUncertainty :
    s11.osc.selection = .primary ∧ (did .primaryLost s11).osc.selection = .backup
      ∧ (did .primaryLost s11).net.fallbackAgu = true ∧ (did .primaryLost s11).net.fallbackAnch = true ∧ s11.agu.unset = true
      ∧ (withBase 600 s11).agu.unset = false ∧ (withBase 600 s11).agu.baseTick ≤ (withBase 600 s11).osc.tick
      ∧ 4294967294 < 4294967295 := by decide +kernel

theorem witness_RestartValues : s11.svc.request = none := by decide +kernel

/-! ## Witnesses: the span line -/

/-- SPAN in this receiver state. -/
def hearing (rx : RxPhase) (bits : Nat) : State := s11.onSpan fun sp => { sp with rx := rx, rxBits := List.replicate bits true }

/-- Each kind of bit time; SENDING the first bit, a bit of a frame whose list is given, the bits of a frame without a list before
its count and at it, and past the last bit; every receiver state; the 16th bit of the sync mark; the 232nd bit and the 233rd. -/
theorem witness_BitTimeHeard :
    Heard { first := .positive, second := .negative } (.bit true) ∧ Heard { first := .negative, second := .positive } (.bit false)
      ∧ Heard { first := .contention, second := .contention } .contention ∧ Heard { first := .bias, second := .bias } .idle
      ∧ (spanAt .sending 1000064 32).span.tx = .sending ∧ (spanAt .sending 1000064 32).span.mismatched = false
      ∧ (spanAt .sending 1000064 32).span.frame = none ∧ (bitsOfBytes [0xE1, 0x5A])[0]? = some true
      ∧ beacon20.accusations.getD [] = [3] ∧ (bitsOfBytes (beaconBytes 11 beacon20))[223]?.isSome
      ∧ (bitsOfBytes (beaconBytes 11 { beacon20 with accusations := some [] }))[191]?.isSome
      ∧ (bitsOfBytes (beaconBytes 11 { beacon20 with accusations := some [] }))[192]?.isSome
      ∧ (bitsOfBytes (beaconBytes 11 beacon20)).length ≤ 224
      ∧ s11.span.tx ≠ .sending ∧ s11.span.rx = .waitIdle
      ∧ (hearing .ready 0).span.rx = .ready ∧ (hearing (.matching 15) 0).span.rx = .matching 15
      ∧ (bitsOfBytes [0xE1, 0x5A])[15]? = some false ∧ (bitsOfBytes [0xE1, 0x5A])[15]? ≠ some true
      ∧ (hearing .receiving 231).span.rx = .receiving ∧ (hearing .receiving 231).span.rxBits.length < 232
      ∧ 232 ≤ (hearing .receiving 232).span.rxBits.length := by
  refine ⟨⟨rfl, rfl⟩, ⟨rfl, rfl⟩, ⟨rfl, rfl⟩, (heard_iff _ _).2 rfl, ?_⟩
  decide +kernel

/-- The end of another station's sync mark, and of the own one. -/
theorem witness_EndOfSyncMarkReadings :
    (s11.onSpan fun sp => { sp with syncDue := true }).span.syncDue = true
      ∧ (s11.onSpan fun sp => { sp with syncDue := true }).span.tx ≠ .sending
      ∧ ((spanAt .sending 1000096 0).onSpan fun sp => { sp with syncDue := true }).span.syncDue = true
      ∧ (spanAt .sending 1000096 0).span.mismatched = false ∧ (spanAt .sending 1000096 0).span.sched = some 1000000 := by
  decide +kernel

/-- SPAN with these receptions ended. -/
def ended (rs : List Reception) (s : State) : State := s.onSpan fun sp => { sp with ended := rs }

/-- The frame that `heard p own` carries. -/
def frameHeard (p : Station) : Frame where
  station := p
  seq := 7
  flags := beacon20.flags
  period := .ms500
  deferral := 1280
  launch := 86400250001050
  statedUnc := 600
  accusations := [3]

/-- The bytes of R178: the flags byte 0x84 is ANCHORED and STEPPED. -/
theorem carries_heard (p : Station) (hp : p = 11 ∨ p = 20) (own : Bool) : Carries (heard p own) (frameHeard p) := by
  have bits : ∀ q ∈ [(11 : Station), 20],
      (heard q false).bits
        = bitsOfBytes (frameBody (frameHeard q) 0x84 ++ bigEndian 2 (crc16 (frameBody (frameHeard q) 0x84)).toNat) := by
    decide +kernel
  exact ⟨rfl, by decide +revert, by decide +revert, by decide +revert, by decide +revert, 0x84, rfl,
    bits p (by simpa using hp)⟩

/-- No frame is carried by no bits. -/
theorem not_carries_nil (r : Reception) (hr : r.bits = []) (f : Frame) : ¬Carries r f := by
  rintro ⟨_, _, _, _, _, flags, _, hb⟩
  simp [hr, frameBody, bitsOfBytes, bitsOfByte] at hb

/-- Each kind of reception, heard in each standing that its clause asks for. -/
theorem witness_ReceptionClassed :
    (ended [{ heard 20 false with how := .symbolError }] s11).span.ended = { heard 20 false with how := .symbolError } :: []
      ∧ ({ heard 20 false with bits := [] } : Reception).how = .idle ∧ (∀ f, ¬Carries { heard 20 false with bits := [] } f)
      ∧ (Carries (heard 20 false) (frameHeard 20) ∧ (frameHeard 20).station ≠ s11.svc.station)
      ∧ Carries (heard 11 false) (frameHeard 11) ∧ Carries (heard 11 true) (frameHeard 11)
      ∧ (frameHeard 11).station = s11.svc.station
      ∧ (∃ rd, (heard 20 false).readings = some rd ∧ rd.own = false) ∧ (∃ rd, (heard 11 true).readings = some rd ∧ rd.own = true)
      ∧ s11.agu.sync = .config ∧ (inSync .lone s11).agu.sync ≠ .config
      ∧ (s11.onSpan mute).span.tx = .muted ∧ s11.span.tx ≠ .muted ∧ s11.span.tx ≠ .sending :=
  ⟨rfl, rfl, not_carries_nil _ rfl, ⟨carries_heard _ (.inr rfl) _, by decide +kernel⟩, carries_heard _ (.inl rfl) _,
    carries_heard _ (.inl rfl) _, by decide +kernel, ⟨_, rfl, rfl⟩, ⟨_, rfl, rfl⟩, by decide +kernel⟩

/-- A first round start, the launch tick, the tick before it, and the deferral limit's last tick and the one after. -/
theorem witness_LaunchScheduledAndPermitted :
    (s11.onNet fun n => { n with roundStart := [{ tick := 40500000, first := true }] }).net.roundStart
        = { tick := 40500000, first := true } :: []
      ∧ (spanAt .waiting 1000000 0).span.sched = some 1000000 ∧ (spanAt .waiting 1000000 0).span.tx = .waiting
      ∧ 1000000 ≤ (spanAt .waiting 1000000 0).osc.tick ∧ (spanAt .waiting 999999 0).osc.tick < 1000000
      ∧ (spanAt .deferring 2562500 32).osc.tick ≤ 1000000 + s11.svc.image.period.ns / 320
      ∧ 32 + (s11.svc.station.val + 1) * 32 * 0 ≤ (spanAt .deferring 2562500 32).span.idleRun
      ∧ (spanAt .deferring 2562500 31).span.idleRun < 32 + (s11.svc.station.val + 1) * 32 * 0
      ∧ 1000000 + s11.svc.image.period.ns / 320 < (spanAt .deferring 2562501 0).osc.tick := by decide +kernel

/-- SENDING with a mismatch at attempts 1 and 2; a 28-byte frame all driven, and all but its last bit. -/
theorem witness_FrameAbandonedOrCompleted :
    ((spanAt .sending 0 0).onSpan fun sp => { sp with mismatched := true, attempts := 1 }).span.mismatched = true
      ∧ ((spanAt .sending 0 0).onSpan fun sp => { sp with mismatched := true, attempts := 1 }).span.attempts < 2
      ∧ ((spanAt .sending 0 0).onSpan fun sp => { sp with mismatched := true, attempts := 2 }).span.attempts = 2
      ∧ ((spanAt .sending 0 0).onSpan fun sp => { sp with frame := some beacon20, sent := 224 }).span.mismatched = false
      ∧ ((spanAt .sending 0 0).onSpan fun sp => { sp with frame := some beacon20, sent := 224 }).span.sent
        = 8 * (27 + (beacon20.accusations.getD []).length)
      ∧ ((spanAt .sending 0 0).onSpan fun sp => { sp with frame := some beacon20, sent := 223 }).span.sent
        < 8 * (27 + (beacon20.accusations.getD []).length)
      ∧ (spanAt .sending 0 0).span.tx = .sending := by decide +kernel

/-- A step notice taken one tick before the launch, and at the launch; and both notices on their way. -/
theorem witness_CompletionNoticeTaken :
    (s11.onNet fun n => { n with completion := [501], stepAgu := [-2500] }).net.completion = 501 :: []
      ∧ s11.agu.stepTick = none ∧ (500 : Nat) < 501 ∧ (501 : Nat) ≤ 501
      ∧ (s11.onNet fun n => { n with completion := [501], stepAgu := [-2500] }).net.stepAgu = -2500 :: []
      ∧ (0 : Nat) ≤ (s11.onNet fun n => { n with completion := [0] }).osc.tick := by decide +kernel

/-- A launch point with one DRIFTING and one BARRED peer to accuse, and the answer of the list. -/
theorem witness_AccusationListGiven :
    (((s11.setPeer 2 { PeerRecord.reset with link := .barred }).onSpan fun sp =>
        { sp with frame := some { beacon20 with accusations := none } })).span.frame = some { beacon20 with accusations := none }
      ∧ ({ beacon20 with accusations := none } : LaunchFields).accusations = none
      ∧ (2 : Station) ≠ s11.svc.station
      ∧ (s11.setPeer 2 { PeerRecord.reset with link := .barred }).ptab[(2 : Station)].link = .barred := by decide +kernel

/-- The warning of the raise is there in one state and not in the other; a removal of it is on its way. -/
theorem witness_WarningsRaisedAndRemoved :
    WarningsStanding warned ∧ warned.net.warn = [] ++ .raise .overflow 1500 :: []
      ∧ (∀ x ∈ ([] : List WarnNotice), x.kind ≠ .overflow)
      ∧ (warned.onNet fun n => { n with fallbackDmon := [999] }).net.fallbackDmon = 999 :: []
      ∧ (warned.onNet fun n => { n with duplicates := [1000] }).net.duplicates = 1000 :: []
      ∧ (warned.onNet fun n => { n with warn := [.raise .selfAccused 3, .remove .overflow] }).net.warn
        = [.raise .selfAccused 3] ++ .remove .overflow :: []
      ∧ (∀ x ∈ [WarnNotice.raise .selfAccused 3], x.kind ≠ .overflow) :=
  ⟨warnings_standing, by decide +kernel, by decide +kernel, by decide +kernel, by decide +kernel, by decide +kernel,
    by decide +kernel⟩

/-! ## Witnesses: the peer table -/

theorem settings_s11 : SettingsInRange s11.svc.image := by unfold SettingsInRange AttrsInRange; decide +kernel

/-- A BARRED and an ABSENT record, a LISTENING one with an in-beat count of 0, and a repeated sequence at an ADMITTED one. -/
theorem witness_FirstBeaconTaken :
    (∀ r ∈ [PeerRecord.reset, peer3 .listening 0 40 0, peer3 .admitted 2 40 0,
          { peer3 .barred 0 40 0 with barExpiry := some 376001400, silenceExpiry := none }],
        (handing r (beat 40 1000 0)).net.handOffs = beat 40 1000 0 :: [] ∧ PeerTableStanding (handing r (beat 40 1000 0))
          ∧ SettingsInRange (handing r (beat 40 1000 0)).svc.image ∧ (handing r (beat 40 1000 0)).ptab[(beat 40 1000 0).station] = r)
      ∧ PeerRecord.reset.link = .absent ∧ (peer3 .listening 0 40 0).inBeat = 0
      ∧ (beat 40 1000 0).seq = (peer3 .admitted 2 40 0).lastSeq := by
  refine ⟨fun r hr => ⟨rfl, handing_standing r _ ?_ rfl, settings_s11, by simp [handing, State.setPeer, State.onNet, beat]⟩,
    rfl, rfl, rfl⟩
  simp only [List.mem_cons, List.not_mem_nil, or_false] at hr
  rcases hr with h | h | h | h <;> subst h <;> simp [PeerRecordStanding, PeerRecord.reset, peer3]

/-- A beacon of 500 ms rounds that falls `d` ticks off the beat of a record whose last scheduled arrival was tick 0. -/
def offBeat (d : Int) : HandOff := beat 41 (12500000 + d).toNat 0

/-- On either end of the beat window of a LISTENING and an ADMITTED record, one tick outside either end, another interval, and
a SILENT record. -/
theorem witness_BeatTestOutcomes :
    (∀ r ∈ [peer3 .listening 1 40 0, peer3 .admitted 2 40 0, peer3 .silent 0 40 0],
      ∀ d ∈ [(-1562501 : Int), -1562500, 1562500, 1562501],
        (handing r (offBeat d)).net.handOffs = offBeat d :: [] ∧ PeerTableStanding (handing r (offBeat d))
          ∧ SettingsInRange (handing r (offBeat d)).svc.image ∧ (handing r (offBeat d)).ptab[(offBeat d).station] = r
          ∧ r.interval = some .ms500 ∧ (offBeat d).seq ≠ r.lastSeq ∧ (offBeat d).period = .ms500
          ∧ beatOffsetNs .ms500 r (offBeat d) = 40 * d)
      ∧ halfWidthNs .ms500 ProfileAttrs.default.accept = 40 * 1562500
      ∧ ({ offBeat 0 with period := .ms250 } : HandOff).period ≠ .ms500 := by
  refine ⟨fun r hr d hd => ⟨rfl, handing_standing r _ ?_ rfl, settings_s11, ?_, ?_⟩, by decide +kernel, by decide +kernel⟩
  · simp only [List.mem_cons, List.not_mem_nil, or_false] at hr
    rcases hr with h | h | h <;> subst h <;> simp [PeerRecordStanding, peer3]
  · simp [handing, State.setPeer, State.onNet, offBeat, beat]
  · revert d; revert r; decide +kernel

/-- The bar expiry and the silence expiries, each on its own tick; the same records a tick before, and in another link state. -/
theorem witness_ExpiriesTaken :
    (∀ r ∈ [peer3 .listening 1 40 0, peer3 .admitted 2 40 0, peer3 .silent 0 40 0],
        PeerTableStanding ((atTick 51562500).setPeer 3 r) ∧ SettingsInRange ((atTick 51562500).setPeer 3 r).svc.image
          ∧ r.interval = some .ms500 ∧ r.silenceExpiry = some 51562500 ∧ (51562500 : Int) ≤ (atTick 51562500).osc.tick)
      ∧ PeerTableStanding
        ((atTick 376001400).setPeer 3 { peer3 .barred 0 45 0 with barExpiry := some 376001400, silenceExpiry := none })
      ∧ 376001400 ≤ (atTick 376001400).osc.tick
      ∧ ((peer3 .barred 0 45 0).link = .barred ∧ (atTick 376001399).osc.tick < 376001400)
      ∧ ((peer3 .silent 0 40 0).link = .silent ∧ ((atTick 51562499).osc.tick : Int) < 51562500)
      ∧ (peer3 .admitted 2 40 0).link ≠ .barred ∧ PeerRecord.reset.link = .absent := by
  refine ⟨fun r hr => ⟨peerTable_of r _ ?_ rfl rfl (by simp [atTick, s11, State.resetWith, InFlight.empty, State.setPeer]), settings_s11, ?_⟩,
    peerTable_of _ _ ?_ rfl rfl (by decide +kernel), by decide +kernel⟩
  · simp only [List.mem_cons, List.not_mem_nil, or_false] at hr
    rcases hr with h | h | h <;> subst h <;> simp [PeerRecordStanding, peer3]
  · revert r; decide +kernel
  · simp [PeerRecordStanding, peer3]

/-- An ADMITTED dissenter at dissent counts 1 and 2, an ADMITTED agreeing participant and a record in neither list. -/
theorem witness_DissentTaken :
    (∀ r ∈ [{ peer3 .admitted 2 40 0 with dissent := 1 }, { peer3 .admitted 2 40 0 with dissent := 2 }, peer3 .silent 0 40 0],
      ∀ d ∈ [({ dissenters := [3], agreeing := [7, 11] } : Dissent), { dissenters := [], agreeing := [3, 11] }],
        ((s11.setPeer 3 r).onNet fun n => { n with dissent := [d] }).net.dissent = d :: []
          ∧ PeerTableStanding ((s11.setPeer 3 r).onNet fun n => { n with dissent := [d] })) := by
  intro r hr d _
  refine ⟨rfl, peerTable_of r _ ?_ rfl rfl (by simp [State.onNet, s11, State.resetWith, InFlight.empty, State.setPeer])⟩
  simp only [List.mem_cons, List.not_mem_nil, or_false] at hr
  rcases hr with h | h | h <;> subst h <;> simp [PeerRecordStanding, peer3]

/-- A step notice on its way to each recipient; at CAPU on its boundary tick with an edge to stamp, with an entry to settle and
with neither, and a tick later. -/
theorem witness_StepNoticesTaken :
    (s11.sendStep (-2500)).net.stepAgu = -2500 :: [] ∧ (s11.sendStep (-2500)).net.stepDmon = -2500 :: []
      ∧ (s11.sendStep (-2500)).net.stepAnch = -2500 :: []
      ∧ (s11.sendStep (-2500)).net.stepCapu = { tick := 0, c := -2500 } :: [] ∧ s11.osc.tick = 0
      ∧ (did .stepNoticeAtAgu (s11.sendStep (-2500))).net.rebase = -2500 :: []
      ∧ (∃ l e, OfInterest ((edgeOn1 (line1On s11)).sendStep (-2500)) l e)
      ∧ (∃ e ∈ (e2At 1759).capu.queue,
          e.state = .pending ∧ ownU (e2At 1759) < 4294967295 ∧ e.unc < 4294967295
            ∧ e.ts + e.unc < (clockAtCapu ((e2At 1759).sendStep 0) : Int) - ownU (e2At 1759))
      ∧ s11.capu.queue = [] ∧ (∀ l, s11.capu.lines[(l : CapLineNo)].found = none)
      ∧ ({ (s11.sendStep (-2500)) with osc := { selection := .primary, tick := 1 } } : State).osc.tick ≠ 0 := by
  refine ⟨by decide +kernel, by decide +kernel, by decide +kernel, by decide +kernel, by decide +kernel, by decide +kernel,
    ⟨1, .rising, ?_⟩, ?_⟩
  · unfold OfInterest; decide +kernel
  · decide +kernel

/-! ## Witnesses: rounds -/

/-- Peer 3 with an observation, ADMITTED; the own interval as the anchor's, as U's and as none. -/
theorem witness_IntervalsTaken :
    (3 : Station) ≠ s11.svc.station
      ∧ (s11.setPeer 3 (peer3 .admitted 2 40 0)).ptab[(3 : Station)].link = .admitted
      ∧ ({ s11 with anch := { armed610 with state := .qualified, alpha := some 1262 } } : State).anch.state = .qualified
      ∧ ({ s11 with anch := { armed610 with state := .qualified, alpha := some 1262 } } : State).anch.alpha = some 1262
      ∧ s11.anch.state ≠ .qualified ∧ s11.agu.humble = false ∧ ownU (withBase 4294967294 s11) < 4294967295
      ∧ ownU s11 = 4294967295 ∧ ((withBase 600 s11).onAgu fun a => { a with humble := true }).agu.humble = true := by
  decide +kernel

/-- Two peers and the own station, agreeing; the round timer reached on its own tick. -/
def agreeing (base : Nat) : State :=
  (((withBase base s11).setPeer 3 (peer3 .admitted 2 40 0)).setPeer 7 (peer3 .admitted 2 40 0)).onAgu fun a =>
    { a with sync := .holdover, roundTimer := some 0 }

/-- A row in which the first `n` peers are ADMITTED and the first `a` of them accuse this station; the round timer is reached. -/
def row (n a : Nat) : State :=
  { s11 with
      ptab :=
        mapNumbered
          (fun p r => if p.val < n then { peer3 .admitted 2 40 0 with accusesMe := decide (p.val < a) } else r) s11.ptab }.onAgu
    fun g => { g with sync := .holdover, roundTimer := some 0 }

/-- Peers 3, 7 and 12 at these offsets, each with a bound of 780 ns, and no own interval. -/
def spread (x y z : Int) : State :=
  let r (theta : Int) : PeerRecord :=
    { peer3 .admitted 2 40 0 with obs := some { observationOf ProfileAttrs.default (beat 40 0 0) with theta := theta } }
  (((row 0 0).setPeer 3 (r x)).setPeer 7 (r y)).setPeer 12 (r z)

/-- A close on its tick, and the intervals of 4.8. -/
theorem witness_SweepFindsTheWidestOverlap :
    (row 2 0).agu.roundTimer = some (row 2 0).osc.tick
      ∧ five ≠ [] ∧ (∀ i ∈ five, i.lo ≤ i.hi) ∧ sweep five = (4, some (300, 900)) := by decide +kernel

/-- F = 1: SPARSE at n = 2, AGREED at n = 3 and c = 2, SPLIT at n = 3 and c = 1. -/
theorem witness_OutcomeOfAClose :
    (row 2 0).agu.roundTimer = some 0 ∧ 0 ≤ (row 2 0).osc.tick ∧ strappedF (row 2 0) = 1 ∧ (takenIntervals (row 2 0)).length = 2
      ∧ (spread 0 1560 90000).agu.roundTimer = some 0 ∧ (takenIntervals (spread 0 1560 90000)).length = 3
      ∧ (sweep (takenIntervals (spread 0 1560 90000))).1 = 2 ∧ (takenIntervals (spread 0 1561 90000)).length = 3
      ∧ (sweep (takenIntervals (spread 0 1561 90000))).1 = 1 := by decide +kernel

/-- The tick before the round timer; a slew, abs(C) being at most the threshold; a step, abs(C) being 1 above a threshold of 409; a
forced step, UNSET being set. -/
theorem witness_AgreedClose :
    (∀ t ∈ ((agreeing 600).onAgu fun a => { a with roundTimer := some 1 }).agu.roundTimer, (agreeing 600).osc.tick < t)
      ∧ (agreeing 600).agu.roundTimer = some 0 ∧ 0 ≤ (agreeing 600).osc.tick
      ∧ sweep (takenIntervals (agreeing 600)) = (3, some (220, 600))
      ∧ Agrees (strappedF (agreeing 600)) (takenIntervals (agreeing 600)).length 3 ∧ (agreeing 600).agu.unset = false
      ∧ ((220 + 600 : Int).tdiv 2).natAbs ≤ (agreeing 600).svc.image.stepThreshold ∧ 409 < ((220 + 600 : Int).tdiv 2).natAbs
      ∧ (row 3 0).agu.roundTimer = some 0 ∧ (row 3 0).agu.unset = true
      ∧ sweep (takenIntervals (row 3 0)) = (3, some (220, 1780))
      ∧ Agrees (strappedF (row 3 0)) (takenIntervals (row 3 0)).length 3 := by
  unfold Agrees; decide +kernel

/-- Alone without an anchor, and with a QUALIFIED one at α on the step threshold and above it. -/
theorem witness_CloseWithoutAgreement :
    (inSync .lone ((withBase 600 s11).onAgu fun a => { a with roundTimer := some 0 })).agu.roundTimer = some 0
      ∧ 0 ≤ s11.osc.tick
      ∧ ¬Agrees (strappedF (withBase 600 s11)) (takenIntervals (withBase 600 s11)).length (sweep (takenIntervals (withBase 600 s11))).1
      ∧ s11.anch.state ≠ .qualified
      ∧ ¬Agrees (strappedF { withBase 600 s11 with anch := { armed610 with state := .qualified, alpha := some 50000 } })
          (takenIntervals { withBase 600 s11 with anch := { armed610 with state := .qualified, alpha := some 50000 } }).length
          (sweep (takenIntervals { withBase 600 s11 with anch := { armed610 with state := .qualified, alpha := some 50000 } })).1
      ∧ (50000 : Int).natAbs ≤ s11.svc.image.stepThreshold ∧ s11.svc.image.stepThreshold < (50001 : Int).natAbs := by
  unfold Agrees; decide +kernel

/-- R81 enters at 2 accusers of 3 and leaves at 1 of 4; at 2 of 4 and at 1 of 3 it does neither. The outcomes are an AGREED close,
one with no eligible peer and one with one. -/
theorem witness_HumbleAndDisagreementRun :
    (agreeing 600).agu.roundTimer = some 0 ∧ 0 ≤ (agreeing 600).osc.tick
      ∧ (∀ n ≤ 4, ∀ a ≤ n, accusers (row n a) = a ∧ admittedPeers (row n a) = n)
      ∧ (2 ≤ 2 ∧ 3 < 2 * 2) ∧ 4 * 1 ≤ 4 ∧ ¬(4 < 2 * 2) ∧ ¬(4 * 2 ≤ 4) ∧ ¬(2 ≤ 1) ∧ ¬(4 * 1 ≤ 3)
      ∧ Agrees (strappedF (agreeing 600)) (takenIntervals (agreeing 600)).length (sweep (takenIntervals (agreeing 600))).1
      ∧ ¬Agrees (strappedF (row 0 0)) (takenIntervals (row 0 0)).length (sweep (takenIntervals (row 0 0))).1
      ∧ eligiblePeers (row 0 0) = 0 ∧ eligiblePeers (row 1 0) ≠ 0
      ∧ ¬Agrees (strappedF (row 1 0)) (takenIntervals (row 1 0)).length (sweep (takenIntervals (row 1 0))).1 := by
  unfold Agrees; decide +kernel

/-- START in CONFIG and outside it; the end of LISTEN on its own tick, the tick before it, and outside LISTEN. -/
theorem witness_ListenBeginsAndEnds :
    s11.svc.request = none ∧ s11.agu.sync = .config ∧ (inSync .lone s11).agu.sync ≠ .config
      ∧ ((inSync .listen (atTick 40500000)).onAgu fun a => { a with endListen := some 40500000 }).agu.sync = .listen
      ∧ ((inSync .listen (atTick 40500000)).onAgu fun a => { a with endListen := some 40500000 }).agu.endListen = some 40500000
      ∧ 40500000 ≤ (atTick 40500000).osc.tick
      ∧ (∀ t ∈ ((inSync .listen (atTick 40499999)).onAgu fun a => { a with endListen := some 40500000 }).agu.endListen,
          (atTick 40499999).osc.tick < t)
      ∧ (inSync .lone s11).agu.sync ≠ .listen := by decide +kernel

/-! ## Witnesses: the drift monitor and the anchor -/

/-- Each notice; a sample one tick before the step tick and at it; a window that the sample fills, and one it does not. -/
theorem witness_SamplesAndNoticesTaken :
    (s11.sendDmon [.leave 20]).net.toDmon = .leave 20 :: [] ∧ (s11.sendDmon [.window 20]).net.toDmon = .window 20 :: []
      ∧ (s11.sendDmon [.sample 20 87500000 19500]).net.toDmon = .sample 20 87500000 19500 :: []
      ∧ ((s11.sendDmon [.sample 20 87500000 19500]).onDmon fun m => { m with stepTick := some 87500001 }).dmon.stepTick
        = some 87500001
      ∧ (87500000 : Nat) < 87500001 ∧ (87500000 : Nat) ≤ 87500000
      ∧ s11.dmon.drift[(20 : Station)].window.length ≠ 7
      ∧ seven ++ [(87500000, 19500)] = (seven ++ [(87500000, 19500)]).take 4 ++ (seven ++ [(87500000, 19500)]).drop 4
      ∧ ((seven ++ [(87500000, 19500)]).take 4).length = 4 ∧ ((seven ++ [(87500000, 19500)]).drop 4).length = 4 := by
  decide +kernel

/-- L = 2,000: above it, on it, one above half of it, and on half of it. -/
theorem witness_VerdictMoves :
    (2001 : Int).natAbs > 2000 ∧ 2000 < 2 * (2000 : Int).natAbs ∧ (2000 : Int).natAbs ≤ 2000 ∧ 2000 < 2 * (1001 : Int).natAbs
      ∧ 2 * (1000 : Int).natAbs ≤ 2000 := by decide

/-- A list with a warning of before, of a raise time behind the clock, and a drift warning of peer 12, which enters STEADY. -/
def listAtReview : State :=
  (beforeReview 10 (-6) 4 3012 2 .suspect).onDmon fun m =>
    { m with
      warnings :=
        [{ kind := .overflow, subject := .own, time := 0, value := 0 },
          { kind := .peerDrifting, subject := .peer 12, time := 0, value := 2500 },
          { kind := .anchorLost, subject := .own, time := 1, value := 0 }]
      drift := m.drift.set 12 { m.drift[(12 : Station)] with verdict := .easing } }

/-- The tick before the timer; review 2 of 5.8 on the timer's own tick, with an empty list and with one that loses a warning and
gains one behind those raised no later; a review with the own rate alone. -/
theorem witness_ReviewHeld :
    (∀ t ∈ (s11.onDmon fun m => { m with reviewTimer := some 1 }).dmon.reviewTimer, s11.osc.tick < t)
      ∧ WarningsStanding listAtReview ∧ listAtReview.dmon.reviewTimer = some 0 ∧ 0 ≤ listAtReview.osc.tick ∧ (reviewRates listAtReview).length = 5
      ∧ ((did .review listAtReview).dmon.warnings.map fun w => (w.kind, w.subject, w.time))
        = [(.overflow, .own, 0), (.peerDrifting, .peer 20, 0), (.anchorLost, .own, 1)]
      ∧ WarningsStanding (beforeReview 10 (-6) 4 3012 2 .suspect)
      ∧ (beforeReview 10 (-6) 4 3012 2 .suspect).dmon.reviewTimer = some 0
      ∧ 0 ≤ (beforeReview 10 (-6) 4 3012 2 .suspect).osc.tick
      ∧ (reviewRates (beforeReview 10 (-6) 4 3012 2 .suspect)).length = 5 ∧ (reviewRates s11).length = 1
      ∧ (s11.onDmon fun m => { m with reviewTimer := some 0 }).dmon.reviewTimer = some 0 := by
  unfold WarningsStanding; decide +kernel

/-- A window on tick 25,000,000. -/
def window25 (missed : Bool) : AnchorWindow := { expected := 25000000, half := 1375, missed := missed }

/-- ANCH of 6.10 with that window, in this state with these counts. -/
def anchor25 (st : AnchorState) (good miss : Nat) (missed : Bool) : Anch :=
  { armed610 with state := st, good := good, miss := miss, window := some (window25 missed) }

/-- Ignored, lead, and against the window: its first tick and its last, the tick before the first, the half-second point of an
early pulse and one tick earlier, and the tick after the last; the counts on either side of qualifying and of the loss; s at 0. -/
theorem witness_PulseTaken :
    (∀ a ∈ [Anch.reset, armed610, { armed610 with s := some 0 }], ∀ tick ∈ [0, 12499999, 12500000, 24998624, 24998625, 25001375],
        (pulsing a tick 5).anch.pulses = { tick := tick, stamp := 5 } :: [])
      ∧ (pulsing Anch.reset 0 0).anch.state = .unarmed
      ∧ (pulsing armed610 0 0).anch.window = none ∧ (pulsing armed610 0 0).anch.s = some 1700000000
      ∧ (∀ tick ∈ [24998625, 25001375], 25000000 ≤ tick + 1375 ∧ tick ≤ 25000000 + 1375)
      ∧ (anchor25 .armed 1 0 false).good < 2 ∧ (anchor25 .armed 2 0 false).good = 2
      ∧ (anchor25 .qualified 0 1 true).window = some (window25 true) ∧ (anchor25 .qualified 0 1 true).s = some 1700000000
      ∧ 24998624 + 1375 < 25000000 ∧ 25000000 - 12500000 ≤ 12500000 ∧ 12500000 < 25000000 - 12499999
      ∧ (anchor25 .qualified 0 0 false).miss = 0 ∧ (anchor25 .qualified 0 1 false).miss = 1
      ∧ (pulsing (anchor25 .armed 1 0 false) 25001376 0).anch.pulses = { tick := 25001376, stamp := 0 } :: []
      ∧ 25000000 + 1375 < 25001376 := by decide +kernel

/-- The window's end a tick early, and on its own tick, with the missed mark set and clear, and the miss run at 0 and 1. -/
theorem witness_WindowEndTaken :
    ({ atTick 25001376 with anch := anchor25 .qualified 0 1 false } : State).anch.window = some (window25 false)
      ∧ ({ atTick 25001376 with anch := anchor25 .qualified 0 1 false } : State).anch.s = some 1700000000
      ∧ 25000000 + 1375 + 1 ≤ (atTick 25001376).osc.tick ∧ (window25 true).missed = true
      ∧ (anchor25 .armed 1 0 false).state = .armed ∧ (anchor25 .qualified 0 0 false).miss = 0
      ∧ (anchor25 .qualified 0 1 false).miss = 1
      ∧ (∀ w ∈ (anchor25 .qualified 0 1 false).window, (atTick 25001375).osc.tick < w.expected + w.half + 1)
      ∧ (Anch.reset.state ≠ .armed ∧ Anch.reset.state ≠ .qualified) := by decide +kernel

/-! ## Witnesses: captures -/

/-- A state with a rising edge found on line 1, its guard as given, and this queue. -/
def edgeWith (g : Option LineGuard) (q : List CapEntry) (x : SyncState) : State :=
  edgeOn1 (line1On (queued q (inSync x ((atTick 100).onCapu fun c => c.setLine 1 { c.lines[(1 : CapLineNo)] with guard := g }))))

/-- A step notice of an earlier tick and of this one; in CONFIG; inside a guard with and without a link, on the tick before its
closing; on the closing tick; a queue of 63, of 64. -/
theorem witness_EdgeTaken :
    ((∃ n ∈ ({ (s11.sendStep 5) with osc := { selection := .primary, tick := 1 } } : State).net.stepCapu, n.tick ≠ 1)
        ∧ (∀ n ∈ (edgeWith none [] .config).net.stepCapu, n.tick = (edgeWith none [] .config).osc.tick)
        ∧ ∀ n ∈ ((edgeWith none [] .lone).sendStep 5).net.stepCapu, n.tick = (edgeWith none [] .lone).osc.tick)
      ∧ OfInterest (edgeWith none [] .config) 1 .rising ∧ (∀ m < (1 : CapLineNo), ∀ f, ¬OfInterest (edgeWith none [] .config) m f)
      ∧ (edgeWith none [] .config).agu.sync = .config ∧ (edgeWith none [] .lone).agu.sync ≠ .config
      ∧ OfInterest (edgeWith (some { closing := 101, link := some 0 }) [entry 0 0 0 .pending] .lone) 1 .rising
      ∧ (edgeWith (some { closing := 101, link := some 0 }) [entry 0 0 0 .pending] .lone).osc.tick < 101
      ∧ (edgeWith (some { closing := 101, link := some 0 }) [entry 0 0 0 .pending] .lone).capu.queue
        = [] ++ entry 0 0 0 .pending :: []
      ∧ (∀ g, (edgeWith (some { closing := 100, link := none }) [] .lone).capu.lines[(1 : CapLineNo)].guard = some g →
          g.closing ≤ (edgeWith (some { closing := 100, link := none }) [] .lone).osc.tick)
      ∧ (edgeWith none (List.replicate 63 (entry 0 0 0 .settled)) .lone).capu.queue.length < 64
      ∧ (edgeWith none (List.replicate 64 (entry 0 0 0 .settled)) .lone).capu.queue
        = List.replicate 63 (entry 0 0 0 .settled) ++ [entry 0 0 0 .settled]
      ∧ 63 ≤ (List.replicate 63 (entry 0 0 0 .settled)).length := by
  refine ⟨by decide +kernel, by unfold OfInterest; decide +kernel, ?_, by decide +kernel, by decide +kernel,
    by unfold OfInterest; decide +kernel, by decide +kernel, by decide +kernel, ?_, by decide +kernel⟩
  · intro m hm f h
    have hm0 : m = 0 := Fin.ext (Nat.lt_one_iff.mp hm)
    subst hm0
    exact absurd h.1 (by cases f <;> decide +kernel)
  · intro g hg
    have h1 : (edgeWith (some { closing := 100, link := none }) [] .lone).capu.lines[(1 : CapLineNo)].guard
        = some { closing := 100, link := none } := by decide +kernel
    rw [h1] at hg
    cases hg
    decide +kernel

/-- The settle condition on its first tick and on the tick before, the settle limit on its own tick and before it, an entry that
has left PENDING, and a guard on its closing tick and before it. -/
theorem witness_SettledOverdueAndGuardClosed :
    (e2At 1759).capu.queue = [] ++ entry 399997500 86500299864000 90040 .pending :: [] ∧ ([] : List CapEntry).length = (0 : Fin 64).val
      ∧ (∀ n ∈ (e2At 1759).net.stepCapu, n.tick = (e2At 1759).osc.tick)
      ∧ ownU (e2At 1759) < 4294967295 ∧ (90040 : Nat) < 4294967295
      ∧ (86500299864000 : Int) + 90040 < (clockAtCapu (e2At 1759) : Int) - ownU (e2At 1759)
      ∧ ¬((86500299864000 : Int) + 90040 < (clockAtCapu (e2At 1758) : Int) - ownU (e2At 1758))
      ∧ 100 + s11.svc.image.settleMs * 25000 ≤ (queued [entry 100 0 0 .pending] (atTick 50000100)).osc.tick
      ∧ (queued [entry 100 0 0 .pending] (atTick 50000099)).osc.tick < 100 + s11.svc.image.settleMs * 25000
      ∧ (entry 100 0 0 .settled).state ≠ .pending
      ∧ (edgeWith (some { closing := 100, link := none }) [] .lone).capu.lines[(1 : CapLineNo)].guard
        = some { closing := 100, link := none }
      ∧ 100 ≤ (edgeWith (some { closing := 100, link := none }) [] .lone).osc.tick
      ∧ (edgeWith (some { closing := 101, link := none }) [] .lone).osc.tick < 101 := by decide +kernel

/-! ## Witnesses: the mark schedule -/

/-- Entry 2 of 8.8 as ARMED, with one fire left, in this mode and with this chain. -/
def lastFire (mode : Mode) (chain : Option EntryNo) : SchedEntry :=
  { armed88.msch.entries[(2 : EntryNo)] with
    live := { armed88.msch.entries[(2 : EntryNo)].live with count := 1, mode := mode, chain := chain } }

/-- 8.8 with that entry 2. -/
def finishing (mode : Mode) (chain : Option EntryNo) : State :=
  armed88.onMsch fun m => m.setEntry 2 (lastFire mode chain)

/-- Entry 5 of 8.8 as ARM leaves it, with this fire time and period. -/
def gateArmed (fire period : Nat) : SchedEntry :=
  { armed88.msch.entries[(5 : EntryNo)] with
    armed := true, fire := fire, staged := false
    live := { armed88.msch.entries[(5 : EntryNo)].staging with period := period } }

/-- 8.8 with entry 5 ARMED at .250 and a staging of this mode and count without a fire time waiting. -/
def restaged (mode : Mode) (count : Nat) : State :=
  armed88.onMsch fun m => m.setEntry 5
    { gateArmed 86600250000000 50000000 with
      staged := true, stagingFire := none
      staging := { armed88.msch.entries[(5 : EntryNo)].staging with mode := mode, count := count } }

/-- A state whose schedule table alone differs from 8.8 in one entry. -/
theorem schedule_put (n : EntryNo) (e : SchedEntry) (he : EntryInRange e) : ScheduleStanding (armed88.onMsch fun m => m.setEntry n e) := by
  refine ⟨fun k => ?_, schedule_armed88.2.1,
    fun h => absurd (show armed88.agu.sync = .config from h) (by decide +kernel)⟩
  by_cases hk : (n : Nat) = k
  · have : n = k := Fin.ext hk
    subst this
    simpa [State.onMsch, Msch.setEntry] using he
  · simpa [State.onMsch, Msch.setEntry, hk] using schedule_armed88.1 k

theorem lastFire_inRange (mode : Mode) (chain : Option EntryNo) : EntryInRange (lastFire mode chain) := by
  have h := schedule_armed88.1 2
  exact ⟨⟨h.1.1, h.1.2.1, show (1 : Nat) ≤ 65535 by decide, h.1.2.2.2.1, h.1.2.2.2.2.1, h.1.2.2.2.2.2.1, h.1.2.2.2.2.2.2⟩, h.2.1, h.2.2.1, h.2.2.2.1,
    fun _ => Nat.le_refl 1, h.2.2.2.2.2⟩

theorem gateArmed_inRange (fire period : Nat) (lo : 1000 ≤ period) (hi : period ≤ 1000000000000) :
    EntryInRange (gateArmed fire period) := by
  have h := schedule_armed88.1 5
  exact ⟨⟨lo, hi, h.2.1.2.2⟩, h.2.1, h.2.2.1, h.2.2.2.1, fun _ => h.2.2.2.2.2 (by decide +kernel), nofun⟩

theorem schedule_restaged (mode : Mode) (count : Nat) (lo : 1 ≤ count) (hi : count ≤ 65535) : ScheduleStanding (restaged mode count) := by
  have h := schedule_armed88.1 5
  have g := gateArmed_inRange 86600250000000 50000000 (by decide) (by decide)
  exact schedule_put 5 _ ⟨g.1, ⟨h.2.1.1, h.2.1.2.1, hi, h.2.1.2.2.2⟩, g.2.2.1, g.2.2.2.1, g.2.2.2.2.1, fun _ => lo⟩

/-- 8.8 on the ns of entry 2's fire time with count 3; with count 1 in every mode, with no chain, with a chain to an armable entry
ahead of the clock and to itself, and to one behind the clock, so that it cascades; entry 5 with a staging waiting, of count 1 in
every mode and of count 4; an entry not due, and a step notice of an earlier tick. -/
theorem witness_FireMade :
    ((ScheduleStanding (atTime 86600000000000 armed88) ∧ Due (atTime 86600000000000 armed88) armed88.msch.entries[(2 : EntryNo)])
        ∧ (∀ m g, ScheduleStanding (atTime 86600000000000 (finishing m g)) ∧ ScheduleStanding (atTime 86600250000000 (finishing m g)))
        ∧ ∀ m, ScheduleStanding (atTime 86600250000000 (restaged m 1)) ∧ ScheduleStanding (atTime 86600250000000 (restaged m 4)))
      ∧ (∀ s ∈ [atTime 86600000000000 (finishing .single none), atTime 86600000000000 (finishing .cyclic (some 5)),
            atTime 86600000000000 (finishing .finite (some 2)), atTime 86600250000000 (finishing .finite (some 5))],
          Due s s.msch.entries[(2 : EntryNo)] ∧ ∀ n ∈ s.net.stepMsch, n.tick = s.osc.tick)
      ∧ (∀ s ∈ [restaged .single 1, restaged .finite 1, restaged .cyclic 1, restaged .cyclic 4],
          Due (atTime 86600250000000 s) s.msch.entries[(5 : EntryNo)])
      ∧ (did (.fire 2) (atTime 86600250000000 (finishing .finite (some 5)))).msch.entries[(5 : EntryNo)].late = true
      ∧ (did (.fire 2) (atTime 86600000000000 (finishing .finite (some 2)))).msch.entries[(2 : EntryNo)].chainRefused = true
      ∧ (did (.fire 5) (atTime 86600250000000 (restaged .single 1))).msch.entries[(5 : EntryNo)].completion = true
      ∧ ¬Due (atTime 86599999999999 armed88) armed88.msch.entries[(2 : EntryNo)]
      ∧ ∃ x ∈ ({ (s11.sendStep 5) with osc := { selection := .primary, tick := 1 } } : State).net.stepMsch, x.tick ≠ 1 := by
  refine ⟨⟨⟨schedule_of_eclk _ _ schedule_armed88, by unfold Due; decide +kernel⟩, fun m g => ?_, fun m => ?_⟩, ?_⟩
  · have h := schedule_put 2 _ (lastFire_inRange m g)
    exact ⟨schedule_of_eclk _ _ h, schedule_of_eclk _ _ h⟩
  · exact ⟨schedule_of_eclk _ _ (schedule_restaged m 1 (by decide) (by decide)),
      schedule_of_eclk _ _ (schedule_restaged m 4 (by decide) (by decide))⟩
  · unfold Due; decide +kernel

/-- 8.8 with entry 2 as that gate, ARMED at .700, and a step notice of this tick on its way. -/
def noticed : State :=
  (armed88.onMsch fun m => m.setEntry 2 (gateArmed 86600700000000 100000000)).onNet fun n =>
    { n with stepMsch := [{ tick := 0, c := 160000000 }] }

/-- That with the clock at this time. -/
def stepping (ns : Nat) : State := atTime ns noticed

theorem schedule_of_net (s : State) (f : InFlight → InFlight) (h : ScheduleStanding s) : ScheduleStanding (s.onNet f) := h

theorem schedule_noticed : ScheduleStanding noticed :=
  schedule_of_net _ _ <| schedule_put 2 _ (gateArmed_inRange 86600700000000 100000000 (by decide) (by decide))

/-- A fire, an ARM that catches up and a step notice that is taken, each of which changes an entry and leaves it ARMED. -/
theorem witness_NothingDueIsLeft :
    (ScheduleStanding (atTime 86600000000000 armed88) ∧ ScheduleStanding (atTime 86600250000000 armed88)
        ∧ ScheduleStanding (stepping 86600811000020))
      ∧ (did (.fire 2) (atTime 86600000000000 armed88)).msch.entries[(2 : EntryNo)] ≠ armed88.msch.entries[(2 : EntryNo)]
      ∧ (did (.fire 2) (atTime 86600000000000 armed88)).msch.entries[(2 : EntryNo)].armed = true
      ∧ (did (.arm 5) (atTime 86600250000000 armed88)).msch.entries[(5 : EntryNo)] ≠ armed88.msch.entries[(5 : EntryNo)]
      ∧ (did (.arm 5) (atTime 86600250000000 armed88)).msch.entries[(5 : EntryNo)].armed = true
      ∧ (stepping 86600811000020).net.stepMsch = { tick := 0, c := 160000000 } :: []
      ∧ (∀ n : EntryNo, ¬Due (stepping 86600811000020) (stepping 86600811000020).msch.entries[n])
      ∧ (did .stepNoticeAtMsch (stepping 86600811000020)).msch.entries[(2 : EntryNo)].armed = true := by
  refine ⟨⟨schedule_of_eclk _ _ schedule_armed88, schedule_of_eclk _ _ schedule_armed88, schedule_of_eclk _ _ schedule_noticed⟩,
    ?_⟩
  unfold Due; decide +kernel

/-- On the boundary tick entry 2 is not due at b and is reached by the stepped clock; it is due at b where b is its fire time; and
by a stepped clock one ns short of it none is reached. -/
theorem witness_StepNoticeAtMschTaken :
    ScheduleStanding (stepping 86600811000020)
      ∧ (stepping 86600811000020).net.stepMsch = { tick := 0, c := 160000000 } :: [] ∧ (stepping 86600811000020).osc.tick = 0
      ∧ (∀ n : EntryNo, ¬Due (stepping 86600811000020) (stepping 86600811000020).msch.entries[n])
      ∧ Due { (stepping 86600811000020) with net := InFlight.empty } (stepping 86600811000020).msch.entries[(2 : EntryNo)]
      ∧ Due (stepping 86600860000000) (stepping 86600860000000).msch.entries[(2 : EntryNo)]
      ∧ ∀ n : EntryNo,
        ¬Due { (stepping 86600699999999) with net := InFlight.empty } (stepping 86600699999999).msch.entries[n] := by
  refine ⟨schedule_of_eclk _ _ schedule_noticed, ?_⟩
  unfold Due; decide +kernel

/-- A release tick, reached and one tick ahead. -/
theorem witness_MarksReleasedAndConditionsReported :
    ((atTick 250).onMsch fun m => { m with lines := m.lines.set 1 { release := some 250, high := true } }).msch.lines[
          (1 : MarkLineNo)].release = some 250
      ∧ 250 ≤ (atTick 250).osc.tick ∧ (atTick 249).osc.tick < 250 := by decide +kernel

/-! ## Witnesses: the service port -/

/-- The three refusals at the first index outside a table, at the setting a default profile does not have, and out of CONFIG; the
last index of each table. -/
theorem witness_ConfigureTaken :
    s11.svc.request = none ∧ s11.agu.sync = .config ∧ (inSync .lone s11).agu.sync ≠ .config
      ∧ ItemOutside { selector := 0x16, index := 5, value := 0 } ∧ ItemOutside { selector := 0x20, index := 8, value := 0 }
      ∧ ¬ItemOutside { selector := 0x11, index := 4, value := 0 } ∧ ItemUnknown { selector := 0x11, index := 4, value := 0 }
      ∧ ItemUnknown { selector := 0x07, index := 0, value := 0 }
      ∧ ¬ItemOutside { selector := 0x22, index := 7, value := 0 } ∧ ¬ItemUnknown { selector := 0x22, index := 7, value := 0 }
      ∧ ({ selector := 0x12, index := 3, value := 0 } : CfgItem).index.toNat = (3 : Fin 4).val
      ∧ ({ selector := 0x12, index := 4, value := 0 } : CfgItem).index = 4
      ∧ ({ selector := 0x22, index := 7, value := 0 } : CfgItem).index.toNat = (7 : CapLineNo).val := by
  unfold ItemOutside ItemUnknown; decide +kernel

theorem witness_SettimeAndAnchorTaken :
    s11.svc.request = none ∧ s11.agu.unset = true ∧ s11.eclk.ns < 1000000000 ∧ (withBase 600 s11).agu.unset = false
      ∧ s11.agu.sync = .config ∧ (inSync .lone s11).agu.sync ≠ .config := by decide +kernel

/-- An empty queue, a queue with a head, and the first number that is no station. -/
theorem witness_QueriesAnswered :
    s11.svc.request = none ∧ s11.eclk.ns < 1000000000 ∧ s11.capu.queue = []
      ∧ (queued [entry 1 0 0 .pending] s11).capu.queue = entry 1 0 0 .pending :: []
      ∧ 31 < (32 : Byte).toNat ∧ (11 : Byte).toNat = s11.svc.station.val ∧ (31 : Station) ≠ s11.svc.station
      ∧ (31 : Byte).toNat = (31 : Station).val := by decide +kernel

theorem witness_TakeAndLabel :
    s11.svc.request = none ∧ s11.capu.queue = []
      ∧ (queued [entry 1 0 0 .pending] s11).capu.queue = entry 1 0 0 .pending :: [] ∧ (entry 1 0 0 .pending).state = .pending
      ∧ (entry 1 0 0 .overdue).state ≠ .pending ∧ 7 < (8 : Byte).toNat ∧ (7 : Byte).toNat = (7 : CapLineNo).val := by
  decide +kernel

/-- Each index one outside its table, and on its last number; 0xFF for none. -/
theorem witness_StageTaken :
    s11.svc.request = none ∧ 15 < ({ gate with entry := 16 } : StageArgs).entry.toNat
      ∧ (3 < ({ gate with output := 4 } : StageArgs).output.toNat ∧ ({ gate with output := 4 } : StageArgs).output ≠ 0xFF)
      ∧ (15 < ({ gate with chain := 16 } : StageArgs).chain.toNat ∧ ({ gate with chain := 16 } : StageArgs).chain ≠ 0xFF)
      ∧ ({ gate with entry := 15 } : StageArgs).entry.toNat = (15 : EntryNo).val
      ∧ ({ gate with output := 3 } : StageArgs).output.toNat = (3 : MarkLineNo).val ∧ gate.chain = 0xFF
      ∧ s11.agu.sync = .config ∧ (inSync .lone s11).agu.sync ≠ .config := by decide +kernel

/-- 8.8 after its two STAGE requests: entry 5 IDLE and staged, its fire time ahead of the clock and on it; entry 2 ARMED; entry 0
with nothing staged; CONFIG; the first number that is no entry. -/
theorem witness_ArmStopAndEntryTaken :
    ScheduleStanding armed88 ∧ s11.svc.request = none ∧ 15 < (16 : Byte).toNat ∧ (15 : Byte).toNat = (15 : EntryNo).val
      ∧ armed88.svc.request = none ∧ s11.agu.sync = .config ∧ armed88.agu.sync ≠ .config
      ∧ armed88.msch.entries[(2 : EntryNo)].armed = true
      ∧ armed88.msch.entries[(0 : EntryNo)].armed = false ∧ armed88.msch.entries[(0 : EntryNo)].staged = false
      ∧ armed88.msch.entries[(5 : EntryNo)].armed = false ∧ armed88.msch.entries[(5 : EntryNo)].staged = true
      ∧ armed88.msch.entries[(5 : EntryNo)].stagingFire = some 86600250000000 ∧ clockAtMsch armed88 < 86600250000000
      ∧ 86600250000000 ≤ clockAtMsch (atTime 86600250000000 armed88) := by
  refine ⟨schedule_armed88, ?_⟩
  decide +kernel

theorem witness_WarningsAndAttentionAnswered : s11.svc.request = none := by decide +kernel

/-- A request in progress with its response made, and the buffer showing NOT_READY and then OK. -/
theorem witness_RequestsOverrunUnknownAndPlaced :
    (did .status s11).svc.request = some 0x30 ∧ (did .status s11).svc.response.isSome ∧ (encodeRequest (.arm 2)).isSome
      ∧ s11.svc.request = none ∧ (0x40 : Byte) ≠ 0x00 ∧ (did .status s11).svc.buffer.status = .notReady
      ∧ (did .fullResponsePlaced (did .status s11)).svc.buffer.status = .ok
      ∧ (shiftedOut (did .status s11) 2)[1]? = some 0x00 := by decide +kernel

end Sys2Proof.Tests
end

section
/-! The sweep of a round close (R74): what its parts compute, and the statement that it finds the widest overlap and the region
of it that lies nearest 0. The idea: the sorted endpoints are cut in two at a value x, those the sweep has passed when it stands at x and
those ahead of it; the count of open intervals at that cut is the number of intervals that hold x. A region is then two neighbours
in the sorted list, a start that raises the count to c and the end that follows it. -/

namespace Sys2Proof.Sweep

open Sys2Proof.Machine

/-! ## The sorted endpoints (R74, step 1) -/

/-- The order in which the sweep passes the endpoints. -/
def InOrder (x y : Endpoint) : Prop := endpointLe x y = true

theorem inOrder_iff (x y : Endpoint) : InOrder x y ↔ x.1 < y.1 ∨ x.1 = y.1 ∧ (x.2 = false ∨ y.2 = true) := by
  simp [InOrder, endpointLe]

theorem inOrder_total (x y : Endpoint) : InOrder x y ∨ InOrder y x := by
  obtain ⟨v, p⟩ := x
  obtain ⟨w, q⟩ := y
  cases p <;> cases q <;> simp [inOrder_iff] <;> omega

theorem inOrder_trans {x y z : Endpoint} (hxy : InOrder x y) (hyz : InOrder y z) : InOrder x z := by
  obtain ⟨v, p⟩ := x
  obtain ⟨w, q⟩ := y
  obtain ⟨u, r⟩ := z
  cases p <;> cases q <;> cases r <;> simp [inOrder_iff] at * <;> omega

theorem insertEndpoint_perm (e : Endpoint) (l : List Endpoint) : (insertEndpoint e l).Perm (e :: l) := by
  induction l with
  | nil => exact .refl _
  | cons y ys ih =>
    unfold insertEndpoint
    split
    · exact .refl _
    · exact (ih.cons y).trans (.swap e y ys)

theorem insertEndpoint_pairwise (e : Endpoint) {l : List Endpoint} (h : l.Pairwise InOrder) :
    (insertEndpoint e l).Pairwise InOrder := by
  induction l with
  | nil => exact List.pairwise_singleton _ _
  | cons y ys ih =>
    obtain ⟨hy, hys⟩ := List.pairwise_cons.1 h
    unfold insertEndpoint
    split
    next hle =>
      exact List.pairwise_cons.2 ⟨List.forall_mem_cons.2 ⟨hle, fun z hz => inOrder_trans hle (hy z hz)⟩, h⟩
    next hle =>
      have hye : InOrder y e := (inOrder_total y e).resolve_right hle
      refine List.pairwise_cons.2 ⟨fun z hz => ?_, ih hys⟩
      rcases List.mem_cons.1 ((insertEndpoint_perm e ys).mem_iff.1 hz) with rfl | hz
      · exact hye
      · exact hy z hz

theorem sortedEndpoints_pairwise (is : List Interval) : (sortedEndpoints is).Pairwise InOrder := by
  induction is with
  | nil => exact .nil
  | cons i is ih => exact insertEndpoint_pairwise _ (insertEndpoint_pairwise _ ih)

theorem sortedEndpoints_perm (is : List Interval) :
    (sortedEndpoints is).Perm (is.map (fun i => (i.lo, false)) ++ is.map fun i => (i.hi, true)) := by
  induction is with
  | nil => exact .refl _
  | cons i is ih =>
    have hinsert : (sortedEndpoints (i :: is)).Perm ((i.lo, false) :: (i.hi, true) :: sortedEndpoints is) :=
      (insertEndpoint_perm _ _).trans ((insertEndpoint_perm _ _).cons _)
    exact hinsert.trans (((ih.cons _).cons _).trans (List.perm_middle.symm.cons _))

theorem start_mem_sortedEndpoints (is : List Interval) (a : Int) :
    (a, false) ∈ sortedEndpoints is ↔ ∃ i ∈ is, i.lo = a := by
  simp [(sortedEndpoints_perm is).mem_iff]

theorem end_mem_sortedEndpoints (is : List Interval) (b : Int) :
    (b, true) ∈ sortedEndpoints is ↔ ∃ i ∈ is, i.hi = b := by
  simp [(sortedEndpoints_perm is).mem_iff]

theorem countP_sortedEndpoints (p : Endpoint → Bool) (is : List Interval) :
    (sortedEndpoints is).countP p = is.countP (fun i => p (i.lo, false)) + is.countP fun i => p (i.hi, true) := by
  rw [(sortedEndpoints_perm is).countP_eq, List.countP_append, List.countP_map, List.countP_map]
  rfl

/-! ## The count of open intervals (R74, step 2) -/

/-- The count of open intervals after these endpoints, from this count on. -/
def openCount : Nat → List Endpoint → Nat
  | count, [] => count
  | count, (_, true) :: rest => openCount (count - 1) rest
  | count, (_, false) :: rest => openCount (count + 1) rest

theorem openCount_append (k : Nat) (l r : List Endpoint) : openCount k (l ++ r) = openCount (openCount k l) r := by
  induction l generalizing k with
  | nil => rfl
  | cons e l ih => obtain ⟨v, _ | _⟩ := e <;> exact ih _

theorem openCount_concat_start (k : Nat) (l : List Endpoint) (a : Int) :
    openCount k (l ++ [(a, false)]) = openCount k l + 1 := openCount_append k l [(a, false)]

theorem openCount_le_maxCount (k : Nat) (l r : List Endpoint) : openCount k l ≤ maxCount k (l ++ r) := by
  induction l generalizing k with
  | nil =>
    cases r with
    | nil => exact le_rfl
    | cons e r => obtain ⟨v, _ | _⟩ := e <;> exact le_max_left _ _
  | cons e l ih => obtain ⟨v, _ | _⟩ := e <;> exact (ih _).trans (le_max_right _ _)

/-- A maximum above the first count is reached at a start. -/
theorem exists_start_of_lt_maxCount (k : Nat) (l : List Endpoint) (h : k < maxCount k l) :
    ∃ left a right, l = left ++ (a, false) :: right ∧ openCount k left + 1 = maxCount k l := by
  induction l generalizing k with
  | nil => exact absurd h (lt_irrefl k)
  | cons e rest ih =>
    obtain ⟨v, _ | _⟩ := e
    case false =>
      have hle : k + 1 ≤ maxCount (k + 1) rest := openCount_le_maxCount (k + 1) [] rest
      have hmax : maxCount k ((v, false) :: rest) = maxCount (k + 1) rest := max_eq_right (by omega)
      rw [hmax]
      rcases hle.eq_or_lt with heq | hlt
      · exact ⟨[], v, rest, rfl, heq⟩
      · obtain ⟨left, a, right, rfl, hopen⟩ := ih _ hlt
        exact ⟨(v, false) :: left, a, right, rfl, hopen⟩
    case true =>
      have hlt : k < maxCount (k - 1) rest := (lt_max_iff.1 h).resolve_left (lt_irrefl k)
      have hmax : maxCount k ((v, true) :: rest) = maxCount (k - 1) rest := max_eq_right hlt.le
      rw [hmax]
      obtain ⟨left, a, right, rfl, hopen⟩ := ih (k - 1) (by omega)
      exact ⟨(v, true) :: left, a, right, rfl, hopen⟩

/-- How many starts of at most this value. -/
def startsUpTo (x : Int) (l : List Endpoint) : Nat := l.countP fun e => !e.2 && e.1 ≤ x

/-- How many ends of at most this value. -/
def endsUpTo (x : Int) (l : List Endpoint) : Nat := l.countP fun e => e.2 && e.1 ≤ x

@[simp] theorem startsUpTo_cons_start (x v : Int) (l : List Endpoint) :
    startsUpTo x ((v, false) :: l) = startsUpTo x l + if v ≤ x then 1 else 0 := by
  simp [startsUpTo, List.countP_cons]

@[simp] theorem startsUpTo_cons_end (x v : Int) (l : List Endpoint) :
    startsUpTo x ((v, true) :: l) = startsUpTo x l := by
  simp [startsUpTo]

@[simp] theorem endsUpTo_cons_start (x v : Int) (l : List Endpoint) :
    endsUpTo x ((v, false) :: l) = endsUpTo x l := by
  simp [endsUpTo]

@[simp] theorem endsUpTo_cons_end (x v : Int) (l : List Endpoint) :
    endsUpTo x ((v, true) :: l) = endsUpTo x l + if v ≤ x then 1 else 0 := by
  simp [endsUpTo, List.countP_cons]

/-- In order, nothing after an endpoint is an end of a lower value. -/
theorem endsUpTo_eq_zero {e : Endpoint} {rest : List Endpoint} (h : ∀ y ∈ rest, InOrder e y) {x : Int} (hx : x < e.1) :
    endsUpTo x rest = 0 := by
  refine List.countP_eq_zero.2 fun y hy => ?_
  have hle := (inOrder_iff e y).1 (h y hy)
  simp only [Bool.and_eq_true, decide_eq_true_eq]
  omega

/-- In order, nothing after an end is a start of its value or a lower one. -/
theorem startsUpTo_eq_zero {v : Int} {rest : List Endpoint} (h : ∀ y ∈ rest, InOrder (v, true) y) :
    startsUpTo v rest = 0 := by
  refine List.countP_eq_zero.2 fun y hy => ?_
  have hle := (inOrder_iff (v, true) y).1 (h y hy)
  obtain ⟨w, _ | _⟩ := y <;> simp_all

/-- Up to every value there are no more ends than the intervals open before and the starts. -/
def EndsCovered (k : Nat) (l : List Endpoint) : Prop := ∀ x, endsUpTo x l ≤ k + startsUpTo x l

theorem endsCovered_sortedEndpoints (is : List Interval) (h : ∀ i ∈ is, i.lo ≤ i.hi) :
    EndsCovered 0 (sortedEndpoints is) := by
  intro x
  have hle : is.countP (fun i => decide (i.hi ≤ x)) ≤ is.countP fun i => decide (i.lo ≤ x) :=
    List.countP_mono_left fun i hi hx => decide_eq_true ((h i hi).trans (of_decide_eq_true hx))
  simpa [endsUpTo, startsUpTo, countP_sortedEndpoints] using hle

theorem EndsCovered.after_start {k : Nat} {v : Int} {rest : List Endpoint} (h : EndsCovered k ((v, false) :: rest))
    (hord : ∀ y ∈ rest, InOrder (v, false) y) : EndsCovered (k + 1) rest := by
  intro x
  by_cases hx : x < v
  · rw [endsUpTo_eq_zero hord hx]
    exact Nat.zero_le _
  · have hcov := h x
    rw [endsUpTo_cons_start, startsUpTo_cons_start, if_pos (not_lt.1 hx)] at hcov
    omega

theorem EndsCovered.after_end {k : Nat} {v : Int} {rest : List Endpoint} (h : EndsCovered k ((v, true) :: rest))
    (hord : ∀ y ∈ rest, InOrder (v, true) y) : 1 ≤ k ∧ EndsCovered (k - 1) rest := by
  have hk : 1 ≤ k := by
    have hcov := h v
    rw [endsUpTo_cons_end, startsUpTo_cons_end, startsUpTo_eq_zero hord, if_pos le_rfl] at hcov
    omega
  refine ⟨hk, fun x => ?_⟩
  by_cases hx : x < v
  · rw [endsUpTo_eq_zero hord hx]
    exact Nat.zero_le _
  · have hcov := h x
    rw [endsUpTo_cons_end, startsUpTo_cons_end, if_pos (not_lt.1 hx)] at hcov
    omega

/-- The count never falls below 0, so it is the starts passed less the ends passed. -/
theorem openCount_add_ends (k : Nat) (left right : List Endpoint) (hord : (left ++ right).Pairwise InOrder)
    (h : EndsCovered k (left ++ right)) : openCount k left + left.countP (·.2) = k + left.countP (!·.2) := by
  induction left generalizing k with
  | nil => rfl
  | cons e left ih =>
    obtain ⟨hhead, htail⟩ := List.pairwise_cons.1 hord
    obtain ⟨v, _ | _⟩ := e
    case false =>
      have hcount := ih (k + 1) htail (h.after_start hhead)
      simpa [openCount, Nat.add_assoc, Nat.add_comm 1] using hcount
    case true =>
      obtain ⟨hk, hcov⟩ := h.after_end hhead
      have hcount : openCount (k - 1) left + left.countP (·.2) = k - 1 + left.countP (!·.2) := ih (k - 1) htail hcov
      have hgoal : openCount (k - 1) left + (left.countP (·.2) + 1) = k + left.countP (!·.2) := by omega
      simpa [openCount] using hgoal

/-! ## Cuts of the sorted endpoints -/

/-- Has the sweep passed this endpoint when it stands at `x`? A start at `x` has been passed, an end at `x` has not. -/
def passed (x : Int) (e : Endpoint) : Bool := endpointLe e (x, false)

@[simp] theorem passed_start (x v : Int) : passed x (v, false) = decide (v ≤ x) := by
  simp [passed, endpointLe, le_iff_lt_or_eq]

@[simp] theorem passed_end (x v : Int) : passed x (v, true) = decide (v < x) := by
  simp [passed, endpointLe]

theorem passed_of_inOrder {x : Int} {e f : Endpoint} (hef : InOrder e f) (hf : passed x f) : passed x e :=
  inOrder_trans hef hf

theorem passed_mono {x y : Int} (hxy : x ≤ y) {e : Endpoint} (h : passed x e) : passed y e :=
  inOrder_trans h (show passed y (x, false) by simpa using hxy)

/-- All of `left` has been passed at `a`, and all of `right` is still ahead at `b`. -/
structure Cut (a b : Int) (left right : List Endpoint) : Prop where
  behind : ∀ e ∈ left, passed a e = true
  ahead : ∀ e ∈ right, passed b e = false

theorem Cut.at {a b x : Int} {left right : List Endpoint} (h : Cut a b left right) (ha : a ≤ x) (hb : x ≤ b) :
    Cut x x left right where
  behind e he := passed_mono ha (h.behind e he)
  ahead e he := Bool.eq_false_iff.2 fun hx => Bool.eq_false_iff.1 (h.ahead e he) (passed_mono hb hx)

theorem Cut.passed_or_ahead {a b : Int} {left right : List Endpoint} (h : Cut a b left right) {e : Endpoint}
    (he : e ∈ left ++ right) : passed a e = true ∨ passed b e = false :=
  (List.mem_append.1 he).imp (h.behind e) (h.ahead e)

theorem exists_cut (x : Int) (pts : List Endpoint) (hord : pts.Pairwise InOrder) :
    ∃ left right, pts = left ++ right ∧ Cut x x left right := by
  induction pts with
  | nil => exact ⟨[], [], rfl, by simp, by simp⟩
  | cons e rest ih =>
    obtain ⟨hhead, htail⟩ := List.pairwise_cons.1 hord
    cases he : passed x e
    case true =>
      obtain ⟨left, right, rfl, hcut⟩ := ih htail
      exact ⟨e :: left, right, rfl, List.forall_mem_cons.2 ⟨he, hcut.behind⟩, hcut.ahead⟩
    case false =>
      refine ⟨[], e :: rest, rfl, by simp, List.forall_mem_cons.2 ⟨he, fun f hf => ?_⟩⟩
      exact Bool.eq_false_iff.2 fun hx => Bool.eq_false_iff.1 he (passed_of_inOrder (hhead f hf) hx)

theorem Cut.countP_left {x : Int} {left right : List Endpoint} (h : Cut x x left right) (p : Endpoint → Bool) :
    left.countP p = (left ++ right).countP fun e => p e && passed x e := by
  have hleft : left.countP (fun e => p e && passed x e) = left.countP p :=
    List.countP_congr fun e he => by simp [h.behind e he]
  have hright : right.countP (fun e => p e && passed x e) = 0 :=
    List.countP_eq_zero.2 fun e he => by simp [h.ahead e he]
  rw [List.countP_append, hleft, hright, Nat.add_zero]

/-- An interval that has started and not ended holds the value. -/
theorem overlap_add_ended (is : List Interval) (h : ∀ i ∈ is, i.lo ≤ i.hi) (x : Int) :
    overlap is x + is.countP (fun i => decide (i.hi < x)) = is.countP fun i => decide (i.lo ≤ x) := by
  unfold overlap
  induction is with
  | nil => rfl
  | cons i is ih =>
    obtain ⟨hi, his⟩ := List.forall_mem_cons.1 h
    have hrest := ih his
    simp only [List.countP_cons, decide_eq_true_eq]
    split_ifs <;> omega

/-- The count of open intervals at a cut is the number of intervals that hold its value. -/
theorem openCount_eq_overlap {is : List Interval} (h : ∀ i ∈ is, i.lo ≤ i.hi) {x : Int} {left right : List Endpoint}
    (hsplit : sortedEndpoints is = left ++ right) (hcut : Cut x x left right) : openCount 0 left = overlap is x := by
  have hopen := openCount_add_ends 0 left right (hsplit ▸ sortedEndpoints_pairwise is)
    (hsplit ▸ endsCovered_sortedEndpoints is h)
  rw [hcut.countP_left, hcut.countP_left, ← hsplit, countP_sortedEndpoints, countP_sortedEndpoints] at hopen
  have hcount : openCount 0 left + is.countP (fun i => decide (i.hi < x)) = is.countP fun i => decide (i.lo ≤ x) := by
    simpa using hopen
  exact Nat.add_right_cancel (hcount.trans (overlap_add_ended is h x).symm)

theorem overlap_le_maxCount {is : List Interval} (h : ∀ i ∈ is, i.lo ≤ i.hi) (x : Int) :
    overlap is x ≤ maxCount 0 (sortedEndpoints is) := by
  obtain ⟨left, right, hsplit, hcut⟩ := exists_cut x _ (sortedEndpoints_pairwise is)
  rw [← openCount_eq_overlap h hsplit hcut, hsplit]
  exact openCount_le_maxCount 0 left right

theorem maxCount_pos {is : List Interval} (hne : is ≠ []) (h : ∀ i ∈ is, i.lo ≤ i.hi) :
    0 < maxCount 0 (sortedEndpoints is) := by
  obtain ⟨i, hi⟩ := List.exists_mem_of_ne_nil is hne
  have hpos : 0 < overlap is i.lo := List.countP_pos_iff.2 ⟨i, hi, by simp [h i hi]⟩
  exact hpos.trans_le (overlap_le_maxCount h i.lo)

/-- After the last endpoint no interval is open. -/
theorem openCount_sortedEndpoints {is : List Interval} (h : ∀ i ∈ is, i.lo ≤ i.hi) :
    openCount 0 (sortedEndpoints is) = 0 := by
  have hopen := openCount_add_ends 0 (sortedEndpoints is) [] (by simpa using sortedEndpoints_pairwise is)
    (by simpa using endsCovered_sortedEndpoints is h)
  simpa [countP_sortedEndpoints] using hopen

/-! ## The regions (R74, step 3) -/

@[simp] theorem mem_regionsFrom_end (c k : Nat) (v : Int) (rest : List Endpoint) (r : Int × Int) :
    r ∈ regionsFrom c k ((v, true) :: rest) ↔ r ∈ regionsFrom c (k - 1) rest := .rfl

@[simp] theorem mem_regionsFrom_start (c k : Nat) (v : Int) (rest : List Endpoint) (a b : Int) :
    (a, b) ∈ regionsFrom c k ((v, false) :: rest) ↔
      (v = a ∧ nextEnd rest = some b ∧ k + 1 = c) ∨ (a, b) ∈ regionsFrom c (k + 1) rest := by
  cases hnext : nextEnd rest with
  | none => simp [regionsFrom, hnext]
  | some w =>
    by_cases hc : k + 1 = c
    · simp [regionsFrom, hnext, hc, eq_comm]
    · simp [regionsFrom, hnext, hc]

theorem mem_regionsFrom_iff (c k : Nat) (l : List Endpoint) (a b : Int) :
    (a, b) ∈ regionsFrom c k l ↔
      ∃ left right, l = left ++ (a, false) :: right ∧ nextEnd right = some b ∧ openCount k left + 1 = c := by
  induction l generalizing k with
  | nil => simp [regionsFrom]
  | cons e rest ih =>
    obtain ⟨v, _ | _⟩ := e
    case true =>
      rw [mem_regionsFrom_end, ih]
      constructor
      · rintro ⟨left, right, rfl, hopen⟩
        exact ⟨(v, true) :: left, right, rfl, hopen⟩
      · rintro ⟨left, right, hsplit, hopen⟩
        obtain ⟨-, hhead⟩ | ⟨left, rfl, rfl⟩ := List.cons_eq_append_iff.1 hsplit
        · cases hhead
        · exact ⟨left, right, rfl, hopen⟩
    case false =>
      rw [mem_regionsFrom_start, ih]
      constructor
      · rintro (⟨rfl, hnext, hc⟩ | ⟨left, right, rfl, hopen⟩)
        · exact ⟨[], rest, rfl, hnext, hc⟩
        · exact ⟨(v, false) :: left, right, rfl, hopen⟩
      · rintro ⟨left, right, hsplit, hopen⟩
        obtain ⟨rfl, hhead⟩ | ⟨left, rfl, rfl⟩ := List.cons_eq_append_iff.1 hsplit
        · cases hhead
          exact .inl ⟨rfl, hopen⟩
        · exact .inr ⟨left, right, rfl, hopen⟩

/-- No start follows a start that raises the count to its maximum. -/
theorem no_start_above_maxCount {k : Nat} {left right : List Endpoint} {a v : Int} :
    openCount k left + 1 ≠ maxCount k (left ++ (a, false) :: (v, false) :: right) := by
  intro heq
  have hle := openCount_le_maxCount k (left ++ [(a, false)] ++ [(v, false)]) right
  rw [openCount_concat_start, openCount_concat_start] at hle
  simp only [List.append_assoc, List.cons_append, List.nil_append] at hle
  omega

/-- A region of the largest count is a start that raises the count to it, with its end next to it. -/
theorem mem_regions_iff_neighbours (k : Nat) (l : List Endpoint) (a b : Int) :
    (a, b) ∈ regionsFrom (maxCount k l) k l ↔
      ∃ left right, l = left ++ (a, false) :: (b, true) :: right ∧ openCount k left + 1 = maxCount k l := by
  rw [mem_regionsFrom_iff]
  constructor
  · rintro ⟨left, _ | ⟨⟨v, _ | _⟩, right⟩, rfl, hnext, hopen⟩
    · cases hnext
    · exact absurd hopen no_start_above_maxCount
    · cases hnext
      exact ⟨left, right, rfl, hopen⟩
  · rintro ⟨left, right, rfl, hopen⟩
    exact ⟨left, (b, true) :: right, rfl, rfl, hopen⟩

theorem exists_region {is : List Interval} (hne : is ≠ []) (h : ∀ i ∈ is, i.lo ≤ i.hi) :
    ∃ a b, (a, b) ∈ regionsFrom (maxCount 0 (sortedEndpoints is)) 0 (sortedEndpoints is) := by
  obtain ⟨left, a, right, hsplit, hopen⟩ := exists_start_of_lt_maxCount 0 _ (maxCount_pos hne h)
  rcases right with _ | ⟨⟨b, _ | _⟩, right⟩
  case nil =>
    have hzero := openCount_sortedEndpoints h
    rw [hsplit, openCount_concat_start] at hzero
    omega
  case cons.false =>
    rw [hsplit] at hopen
    exact absurd hopen no_start_above_maxCount
  case cons.true => exact ⟨a, b, (mem_regions_iff_neighbours _ _ _ _).2 ⟨left, right, hsplit, hopen⟩⟩

/-- R74, step 3, by the intervals alone: a span from a start to an end, with no start after the one and no end before the other,
all of whose values lie in `c` intervals. -/
structure IsRegion (is : List Interval) (c : Nat) (a b : Int) : Prop where
  le : a ≤ b
  overlap_eq : ∀ x, a ≤ x → x ≤ b → overlap is x = c
  isStart : ∃ i ∈ is, i.lo = a
  isEnd : ∃ i ∈ is, i.hi = b
  clear : ∀ i ∈ is, ¬(a < i.lo ∧ i.lo ≤ b) ∧ ¬(a ≤ i.hi ∧ i.hi < b)

/-- Between a start and the end next to it there is a cut. -/
theorem cut_between_neighbours {left right : List Endpoint} {a b : Int}
    (hord : (left ++ (a, false) :: (b, true) :: right).Pairwise InOrder) :
    a ≤ b ∧ Cut a b (left ++ [(a, false)]) ((b, true) :: right) := by
  obtain ⟨-, hmid, hleft⟩ := List.pairwise_append.1 hord
  obtain ⟨hstart, hend⟩ := List.pairwise_cons.1 hmid
  obtain ⟨hright, -⟩ := List.pairwise_cons.1 hend
  have hab : a ≤ b := by
    simpa [inOrder_iff, le_iff_lt_or_eq] using hstart (b, true) List.mem_cons_self
  have hbehind : ∀ e ∈ left, passed a e = true := fun e he =>
    passed_of_inOrder (hleft e he (a, false) List.mem_cons_self) (by simp)
  have hahead : ∀ e ∈ right, passed b e = false := fun e he =>
    Bool.eq_false_iff.2 fun hx => absurd (passed_of_inOrder (hright e he) hx) (by simp)
  refine ⟨hab, ⟨fun e he => ?_, List.forall_mem_cons.2 ⟨by simp, hahead⟩⟩⟩
  rcases List.mem_append.1 he with he | he
  · exact hbehind e he
  · simp [List.mem_singleton.1 he]

/-- At a cut nothing starts after `a` up to `b`, and nothing ends from `a` on before `b`. -/
theorem Cut.clear {is : List Interval} {a b : Int} {left right : List Endpoint} (hcut : Cut a b left right)
    (hsplit : sortedEndpoints is = left ++ right) : ∀ i ∈ is, ¬(a < i.lo ∧ i.lo ≤ b) ∧ ¬(a ≤ i.hi ∧ i.hi < b) := by
  intro i hi
  have hlo := hcut.passed_or_ahead (hsplit ▸ (start_mem_sortedEndpoints is i.lo).2 ⟨i, hi, rfl⟩)
  have hhi := hcut.passed_or_ahead (hsplit ▸ (end_mem_sortedEndpoints is i.hi).2 ⟨i, hi, rfl⟩)
  simp only [passed_start, passed_end, decide_eq_true_eq, decide_eq_false_iff_not] at hlo hhi
  omega

theorem isRegion_of_neighbours {is : List Interval} (h : ∀ i ∈ is, i.lo ≤ i.hi) {left right : List Endpoint} {a b : Int}
    (hsplit : sortedEndpoints is = left ++ (a, false) :: (b, true) :: right) :
    IsRegion is (openCount 0 left + 1) a b := by
  obtain ⟨hab, hcut⟩ := cut_between_neighbours (hsplit ▸ sortedEndpoints_pairwise is)
  have hsplit' : sortedEndpoints is = (left ++ [(a, false)]) ++ (b, true) :: right := by simpa using hsplit
  exact
    { le := hab
      overlap_eq := fun x hax hxb => by
        rw [← openCount_eq_overlap h hsplit' (hcut.at hax hxb), openCount_concat_start]
      isStart := (start_mem_sortedEndpoints is a).1 (by simp [hsplit])
      isEnd := (end_mem_sortedEndpoints is b).1 (by simp [hsplit])
      clear := hcut.clear hsplit' }

/-- The cut at the start of a region reaches to its end. -/
theorem IsRegion.cut {is : List Interval} {c : Nat} {a b : Int} (hreg : IsRegion is c a b) {left right : List Endpoint}
    (hsplit : sortedEndpoints is = left ++ right) (hcut : Cut a a left right) : Cut a b left right := by
  refine ⟨hcut.behind, fun e he => ?_⟩
  have hmem : e ∈ sortedEndpoints is := hsplit ▸ List.mem_append_right left he
  have hahead := hcut.ahead e he
  obtain ⟨v, _ | _⟩ := e
  case false =>
    obtain ⟨i, hi, rfl⟩ := (start_mem_sortedEndpoints is v).1 hmem
    have hclear := (hreg.clear i hi).1
    simp only [passed_start, decide_eq_false_iff_not] at hahead ⊢
    omega
  case true =>
    obtain ⟨i, hi, rfl⟩ := (end_mem_sortedEndpoints is v).1 hmem
    have hclear := (hreg.clear i hi).2
    simp only [passed_end, decide_eq_false_iff_not] at hahead ⊢
    omega

/-- If a start at `a` is passed there, the last endpoint passed is such a start. -/
theorem Cut.left_eq_concat {a b : Int} {left right : List Endpoint} (hcut : Cut a b left right)
    (hord : left.Pairwise InOrder) (hmem : (a, false) ∈ left) : ∃ pre, left = pre ++ [(a, false)] := by
  obtain rfl | ⟨pre, e, rfl⟩ := left.eq_nil_or_concat'
  · cases hmem
  · refine ⟨pre, ?_⟩
    rcases List.mem_append.1 hmem with hpre | hlast
    · have hle := (inOrder_iff _ _).1 ((List.pairwise_append.1 hord).2.2 _ hpre e (by simp))
      have hpassed := hcut.behind e (by simp)
      obtain ⟨v, _ | _⟩ := e <;> simp at hle hpassed ⊢ <;> omega
    · rw [List.mem_singleton.1 hlast]

/-- If an end at `b` is still ahead there, the first endpoint ahead is such an end. -/
theorem Cut.right_eq_cons {a b : Int} {left right : List Endpoint} (hcut : Cut a b left right)
    (hord : right.Pairwise InOrder) (hmem : (b, true) ∈ right) : ∃ post, right = (b, true) :: post := by
  cases right with
  | nil => cases hmem
  | cons e post =>
    refine ⟨post, ?_⟩
    rcases List.mem_cons.1 hmem with hfirst | hpost
    · rw [hfirst]
    · have hle := (inOrder_iff _ _).1 ((List.pairwise_cons.1 hord).1 _ hpost)
      have hahead := hcut.ahead e (by simp)
      obtain ⟨v, _ | _⟩ := e <;> simp at hle hahead ⊢ <;> omega

theorem IsRegion.neighbours {is : List Interval} (h : ∀ i ∈ is, i.lo ≤ i.hi) {c : Nat} {a b : Int}
    (hreg : IsRegion is c a b) :
    ∃ left right, sortedEndpoints is = left ++ (a, false) :: (b, true) :: right ∧ openCount 0 left + 1 = c := by
  have hord := sortedEndpoints_pairwise is
  obtain ⟨left, right, hsplit, hcuta⟩ := exists_cut a _ hord
  have hcut := hreg.cut hsplit hcuta
  have hstart := (start_mem_sortedEndpoints is a).2 hreg.isStart
  have hend := (end_mem_sortedEndpoints is b).2 hreg.isEnd
  rw [hsplit] at hord hstart hend
  obtain ⟨hordl, hordr, -⟩ := List.pairwise_append.1 hord
  have hle := hreg.le
  have hleft : (a, false) ∈ left := (List.mem_append.1 hstart).resolve_right fun hr => by
    simpa [hle] using hcut.ahead _ hr
  have hright : (b, true) ∈ right := (List.mem_append.1 hend).resolve_left fun hl => by
    have hlt := hcut.behind _ hl
    simp only [passed_end, decide_eq_true_eq] at hlt
    omega
  obtain ⟨pre, rfl⟩ := hcut.left_eq_concat hordl hleft
  obtain ⟨post, rfl⟩ := hcut.right_eq_cons hordr hright
  refine ⟨pre, post, by simpa using hsplit, ?_⟩
  rw [← openCount_concat_start 0 pre a, openCount_eq_overlap h hsplit hcuta, hreg.overlap_eq a le_rfl hle]

/-- The regions that the sweep finds are those of the largest count. -/
theorem mem_regions_iff {is : List Interval} (h : ∀ i ∈ is, i.lo ≤ i.hi) (a b : Int) :
    (a, b) ∈ regionsFrom (maxCount 0 (sortedEndpoints is)) 0 (sortedEndpoints is) ↔
      IsRegion is (maxCount 0 (sortedEndpoints is)) a b := by
  rw [mem_regions_iff_neighbours]
  constructor
  · rintro ⟨left, right, hsplit, hopen⟩
    exact hopen ▸ isRegion_of_neighbours h hsplit
  · exact fun hreg => hreg.neighbours h

/-! ## The region taken (R74, step 4) -/

/-- The first region is nearer to 0 than the second, or as near and not the higher one. -/
def Nearest (r q : Int × Int) : Prop :=
  (r.1 + r.2).natAbs < (q.1 + q.2).natAbs ∨ ((r.1 + r.2).natAbs = (q.1 + q.2).natAbs ∧ r.1 ≤ q.1)

theorem nearerRegion_iff (r q : Int × Int) : nearerRegion r q = true ↔ Nearest r q := by
  simp [nearerRegion, Nearest]

theorem Nearest.refl (r : Int × Int) : Nearest r r := .inr ⟨rfl, le_rfl⟩

theorem Nearest.trans {p q r : Int × Int} (hpq : Nearest p q) (hqr : Nearest q r) : Nearest p r := by
  unfold Nearest at *
  omega

theorem Nearest.of_not {r q : Int × Int} (h : ¬Nearest r q) : Nearest q r := by
  unfold Nearest at *
  omega

theorem pickRegion_eq_none_iff (l : List (Int × Int)) : pickRegion l = none ↔ l = [] := by
  cases l with
  | nil => simp [pickRegion]
  | cons r rs => cases hpick : pickRegion rs <;> simp [pickRegion, hpick]

theorem pickRegion_spec {l : List (Int × Int)} {r : Int × Int} (h : pickRegion l = some r) :
    r ∈ l ∧ ∀ q ∈ l, Nearest r q := by
  induction l generalizing r with
  | nil => cases h
  | cons p ps ih =>
    cases hpick : pickRegion ps with
    | none =>
      obtain rfl := (pickRegion_eq_none_iff ps).1 hpick
      obtain rfl : p = r := by simpa [pickRegion] using h
      simp [Nearest.refl]
    | some m =>
      obtain ⟨hmem, hmin⟩ := ih hpick
      have hr : (if nearerRegion p m then p else m) = r := by simpa [pickRegion, hpick] using h
      by_cases hnear : Nearest p m
      · obtain rfl : p = r := by simpa [(nearerRegion_iff p m).2 hnear] using hr
        exact ⟨List.mem_cons_self, List.forall_mem_cons.2 ⟨.refl p, fun q hq => hnear.trans (hmin q hq)⟩⟩
      · obtain rfl : m = r := by simpa [mt (nearerRegion_iff p m).1 hnear] using hr
        exact ⟨List.mem_cons_of_mem p hmem, List.forall_mem_cons.2 ⟨.of_not hnear, hmin⟩⟩

theorem sweep_eq (is : List Interval) :
    sweep is = (maxCount 0 (sortedEndpoints is),
      pickRegion (regionsFrom (maxCount 0 (sortedEndpoints is)) 0 (sortedEndpoints is))) := rfl

/-- R74 as a whole: the largest count, and the nearest region of that count. -/
theorem sweep_spec {is : List Interval} (hne : is ≠ []) (h : ∀ i ∈ is, i.lo ≤ i.hi) :
    ∃ c a b, sweep is = (c, some (a, b)) ∧ 1 ≤ c ∧ (∀ x, overlap is x ≤ c) ∧ IsRegion is c a b
      ∧ ∀ a' b', IsRegion is c a' b' → Nearest (a, b) (a', b') := by
  obtain ⟨a₀, b₀, hregion⟩ := exists_region hne h
  obtain ⟨⟨a, b⟩, hpick⟩ := Option.ne_none_iff_exists'.1
    (mt (pickRegion_eq_none_iff _).1 (List.ne_nil_of_mem hregion))
  obtain ⟨hmem, hnearest⟩ := pickRegion_spec hpick
  exact ⟨_, a, b, by rw [sweep_eq, hpick], maxCount_pos hne h, overlap_le_maxCount h, (mem_regions_iff h a b).1 hmem,
    fun a' b' hreg => hnearest _ ((mem_regions_iff h a' b').2 hreg)⟩

/-! ## The close that takes it (R69, R84) -/

theorem exec_roundClose (s : State) : exec .roundClose s = execRoundClose s := rfl

theorem execRoundClose_on_its_tick {s : State} (h : s.agu.roundTimer = some s.osc.tick) :
    execRoundClose s = .next (closeRound s) := by
  simp [execRoundClose, timerReached, h]

@[simp] theorem closeRound_record (s : State) : (closeRound s).agu.record = recordOf s (closeOf s) := by
  simp [closeRound, aguAfterClose]

/-- Settles O35, from what the sweep finds (`sweep_spec`) and the record of a close on its tick. -/
theorem sweepFindsTheWidestOverlap : Obligations.SweepFindsTheWidestOverlap := by
  refine ⟨rfl, fun s hs => ?_, fun is hne h => ?_⟩
  · exact ⟨closeRound s, by rw [exec_roundClose, execRoundClose_on_its_tick hs],
      by rw [closeRound_record]; rfl, by rw [closeRound_record]; rfl, by rw [closeRound_record]; rfl⟩
  · obtain ⟨c, a, b, hsweep, hpos, hmax, hreg, hnearest⟩ := sweep_spec hne h
    have hlen : c ≤ is.length := hreg.overlap_eq a le_rfl hreg.le ▸ List.countP_le_length
    exact ⟨c, a, b, hsweep, hpos, hlen, hreg.le, hmax, hreg.overlap_eq, hreg.isStart, hreg.isEnd, hreg.clear,
      fun a' b' hle hov hst hen hcl => hnearest a' b' ⟨hle, hov, hst, hen, hcl⟩⟩

end Sys2Proof.Sweep
end

section
/-! The drift monitor takes a sample, a leave notice or a window notice (R88 to R90). The idea: appending is one function of the
drift record, so the rate is settled on a window cut into its two halves, and each command is then a test of the front of DMON's
queue followed by one change of one record. -/

namespace Sys2Proof.DriftSamples

open Sys2Proof.Machine

/-! ## The rate of two halves (R89) -/

theorem sumTicks_eq (w : List (Tick × Int)) : sumTicks w = ((w.map Prod.fst).sum : Nat) := by
  simp [sumTicks, Nat.cast_list_sum, Function.comp_def]

theorem rateOf_halves {early : List (Tick × Int)} (hearly : early.length = 4) (late : List (Tick × Int)) :
    rateOf (early ++ late) =
      max (-10000000) (min 10000000
        ((((late.map Prod.snd).sum - (early.map Prod.snd).sum) * 1000000000).tdiv
          ((((late.map Prod.fst).sum : Int) - (early.map Prod.fst).sum) * 40))) := by
  have hfirst : (early ++ late).take 4 = early := List.take_left' hearly
  have hlast : (early ++ late).drop 4 = late := List.drop_left' hearly
  rw [rateOf, satAbs_eq (by decide), hfirst, hlast, sumTicks_eq, sumTicks_eq]
  rfl

/-! ## A sample appended (R88, R89) -/

theorem appendSample_not_full {r : DriftRecord} (h : r.window.length ≠ 7) (tick : Tick) (thetaP : Int) :
    appendSample tick thetaP r = { r with window := r.window ++ [(tick, thetaP)] } := by
  simp [appendSample, h]

theorem appendSample_full {r : DriftRecord} {tick : Tick} {thetaP : Int} {early late : List (Tick × Int)}
    (hcut : r.window ++ [(tick, thetaP)] = early ++ late) (hearly : early.length = 4) (hlate : late.length = 4) :
    appendSample tick thetaP r = { r with window := late, rate := some (rateOf (early ++ late)), fresh := true } := by
  have hlen : (early ++ late).length = 8 := by simp [hearly, hlate]
  have hlast : (early ++ late).drop 4 = late := List.drop_left' hearly
  simp only [appendSample, hcut, hlen, hlast, if_true]

theorem predatesStep_iff (tick : Tick) (step : Option Tick) :
    predatesStep tick step = true ↔ ∃ t, step = some t ∧ tick < t := by
  cases step <;> simp [predatesStep]

/-! ## The commands by the front of the queue -/

/-- The state once the front of DMON's queue is taken, this being the rest of it. -/
def dequeued (rest : List PeerNotice) (s : State) : State := s.onNet fun n => { n with toDmon := rest }

theorem dequeued_eq (rest : List PeerNotice) (s : State) :
    dequeued rest s = { s with net := { s.net with toDmon := rest } } := rfl

theorem dequeued_setDrift (rest : List PeerNotice) (p : Station) (r : DriftRecord) (s : State) :
    (dequeued rest s).setDrift p r =
      { s with net := { s.net with toDmon := rest }, dmon := { s.dmon with drift := s.dmon.drift.set p r } } := rfl

section
variable {s : State} {p : Station} {rest : List PeerNotice}

/-- LEAVE_NOTICE (R90). -/
theorem exec_leaveNotice (hfront : s.net.toDmon = .leave p :: rest) :
    exec .leaveNotice s =
      .next ((dequeued rest s).setDrift p { s.dmon.drift[p] with window := [], fresh := false }) := by
  change execLeaveNotice s = _
  simp only [execLeaveNotice, hfront, dequeued]

/-- WINDOW_NOTICE (R90). -/
theorem exec_windowNotice (hfront : s.net.toDmon = .window p :: rest) :
    exec .windowNotice s = .next ((dequeued rest s).setDrift p { s.dmon.drift[p] with window := [] }) := by
  change execWindowNotice s = _
  simp only [execWindowNotice, hfront, dequeued]

variable {tick : Tick} {thetaP : Int}

/-- SAMPLE (R88): the step tick alone decides whether the sample is appended. -/
theorem exec_sample (hfront : s.net.toDmon = .sample p tick thetaP :: rest) :
    exec .sample s =
      if predatesStep tick s.dmon.stepTick then .next (dequeued rest s)
      else .next ((dequeued rest s).setDrift p (appendSample tick thetaP s.dmon.drift[p])) := by
  change execSample s = _
  simp only [execSample, hfront, dequeued]

theorem exec_sample_discarded (hfront : s.net.toDmon = .sample p tick thetaP :: rest) {t : Tick}
    (hstep : s.dmon.stepTick = some t) (hbefore : tick < t) : exec .sample s = .next (dequeued rest s) := by
  rw [exec_sample hfront, if_pos ((predatesStep_iff _ _).2 ⟨t, hstep, hbefore⟩)]

theorem exec_sample_appended (hfront : s.net.toDmon = .sample p tick thetaP :: rest)
    (hstep : ∀ t, s.dmon.stepTick = some t → t ≤ tick) :
    exec .sample s = .next ((dequeued rest s).setDrift p (appendSample tick thetaP s.dmon.drift[p])) := by
  have hkept : ¬predatesStep tick s.dmon.stepTick = true := fun h => by
    obtain ⟨t, ht, hbefore⟩ := (predatesStep_iff _ _).1 h
    exact absurd (hstep t ht) (Nat.not_le.2 hbefore)
  rw [exec_sample hfront, if_neg hkept]

end

/-- Settles O42, clause by clause: the two notices, a sample from before the step tick, one that leaves the window short, and one
that fills it. -/
theorem samplesAndNoticesTaken : Obligations.SamplesAndNoticesTaken := by
  intro p rest s
  refine ⟨fun hfront => ?leave, fun hfront => ?window, fun tick thetaP hfront => ⟨fun t hstep hbefore => ?discarded,
    fun hstep => ⟨fun hshort => ?short, fun early late hcut hearly hlate => ?full⟩⟩⟩
  case leave => rw [exec_leaveNotice hfront, dequeued_setDrift]
  case window => rw [exec_windowNotice hfront, dequeued_setDrift]
  case discarded => rw [exec_sample_discarded hfront hstep hbefore, dequeued_eq]
  case short => rw [exec_sample_appended hfront hstep, appendSample_not_full hshort, dequeued_setDrift]
  case full =>
    rw [exec_sample_appended hfront hstep, appendSample_full hcut hearly hlate, rateOf_halves hearly, dequeued_setDrift]

end Sys2Proof.DriftSamples
end

section
/-! What each command can change. The state is cut into blocks, and `writes` names, for each command, the blocks it may write.
`exec_frame` says once that every command answers a next state and leaves the other blocks as they are, so that a statement about
some of the blocks has only the commands that write one of them to look at. -/

namespace Sys2Proof.Frames

open Sys2Proof.Machine

/-! ## Outcomes -/

/-- The outcome is a next state, and `P` holds of it. -/
def Leads (P : State → Prop) (o : Host.Outcome State Fault Refusal) : Prop := ∃ t, o = .next t ∧ P t

@[simp] theorem leads_next (P : State → Prop) (t : State) : Leads P (.next t) ↔ P t := by simp [Leads]

theorem Leads.of_next {P : State → Prop} {o : Host.Outcome State Fault Refusal} {t : State} (h : Leads P o)
    (ho : o = .next t) : P t := by
  subst ho
  simpa using h

theorem Leads.mono {P Q : State → Prop} {o : Host.Outcome State Fault Refusal} (h : Leads P o) (hPQ : ∀ t, P t → Q t) :
    Leads Q o := by
  obtain ⟨t, ht, hP⟩ := h
  exact ⟨t, ht, hPQ t hP⟩

/-! ## Blocks -/

/-- The parts of the state that the statements speak of. ECLK is cut into what shows the time (`clock`) and the rest (`terms`), SVC
into the straps and settings (`settings`) and the request in progress (`port`). The last four are lists of what is on its way,
`queue` is the queue of commands, and `config` is no more than whether CONFIG has been entered. -/
inductive Block where
  | tick | selection | clock | terms | span | ptab | agu | dmon | anch | capu | msch | settings | port | queue | config
  | postings | roundStart | handOffs | toDmon
deriving DecidableEq

/-- Does `t` hold in this block what `s` holds there? -/
def Block.Same (s t : State) : Block → Prop
  | .tick => t.osc.tick = s.osc.tick
  | .selection => t.osc.selection = s.osc.selection
  | .clock => t.eclk.secs = s.eclk.secs ∧ t.eclk.ns = s.eclk.ns ∧ t.eclk.sub = s.eclk.sub ∧ t.eclk.trim = s.eclk.trim
      ∧ t.eclk.phaseTotal = s.eclk.phaseTotal
  | .terms => t.eclk.phase = s.eclk.phase ∧ t.eclk.phaseSlot = s.eclk.phaseSlot ∧ t.eclk.trimSlot = s.eclk.trimSlot
      ∧ t.eclk.stepSlot = s.eclk.stepSlot ∧ t.eclk.hold = s.eclk.hold
  | .span => t.span = s.span
  | .ptab => t.ptab = s.ptab
  | .agu => t.agu = s.agu
  | .dmon => t.dmon = s.dmon
  | .anch => t.anch = s.anch
  | .capu => t.capu = s.capu
  | .msch => t.msch = s.msch
  | .settings => t.svc.station = s.svc.station ∧ t.svc.ftCode = s.svc.ftCode ∧ t.svc.image = s.svc.image
  | .port => t.svc.request = s.svc.request ∧ t.svc.buffer = s.svc.buffer ∧ t.svc.response = s.svc.response
  | .queue => t.pending = s.pending
  | .config => t.agu.sync = .config → s.agu.sync = .config
  | .postings => t.net.postAgu = s.net.postAgu ∧ t.net.postDmon = s.net.postDmon ∧ t.net.postSvc = s.net.postSvc
  | .roundStart => t.net.roundStart = s.net.roundStart
  | .handOffs => t.net.handOffs = s.net.handOffs
  | .toDmon => t.net.toDmon = s.net.toDmon

/-- `t` is `s` but for what stands in the blocks `ws`. -/
def ChangesOnly (ws : List Block) (s t : State) : Prop := ∀ b ∉ ws, b.Same s t

theorem Block.Same.refl (s : State) (b : Block) : b.Same s s := by cases b <;> simp [Block.Same]

theorem Block.Same.trans {s t u : State} {b : Block} (hst : b.Same s t) (htu : b.Same t u) : b.Same s u := by
  cases b <;> simp_all [Block.Same]

theorem ChangesOnly.refl (ws : List Block) (s : State) : ChangesOnly ws s s := fun b _ => Block.Same.refl s b

theorem ChangesOnly.trans {ws : List Block} {s t u : State} (hst : ChangesOnly ws s t) (htu : ChangesOnly ws t u) :
    ChangesOnly ws s u :=
  fun b hb => (hst b hb).trans (htu b hb)

theorem ChangesOnly.mono {ws vs : List Block} {s t : State} (h : ChangesOnly ws s t) (hsub : ws ⊆ vs) : ChangesOnly vs s t :=
  fun b hb => h b fun hw => hb (hsub hw)

/-! ## The blocks a command writes -/

/-- The blocks that a command may write. -/
def writes : Instr → List Block
  | .fullReset _ => [.tick, .selection, .clock, .terms, .span, .ptab, .agu, .dmon, .anch, .capu, .msch, .settings, .port,
      .config, .postings, .roundStart, .handOffs, .toDmon]
  | .restart _ => [.terms, .span, .ptab, .agu, .dmon, .anch, .capu, .msch, .settings, .port, .config, .postings, .roundStart,
      .handOffs, .toDmon]
  | .tick _ _ => [.tick, .clock, .terms, .anch, .capu]
  | .posting _ => [.terms, .postings]
  | .primaryLost => [.selection]
  | .fallbackNoticeAtAgu | .completionNotice | .stepNoticeAtAgu => [.agu]
  | .fallbackNoticeAtDmon | .duplicateNotice | .raiseNotice _ | .removalNotice _ | .stepNoticeAtDmon => [.dmon]
  | .sample | .leaveNotice | .windowNotice => [.dmon, .toDmon]
  | .review => [.dmon, .postings]
  | .endOfSyncMark | .scheduledLaunch | .transmissionStart | .mismatch | .deferralLimit | .beaconCompletion | .accusationList
  | .bitTime _ => [.span]
  | .receptionEnd => [.span, .handOffs]
  | .roundStartNotice => [.span, .roundStart]
  | .handOff => [.ptab, .handOffs, .toDmon]
  | .barExpiry _ | .rebaseNotice => [.ptab]
  | .silenceExpiry _ | .dissentNotice => [.ptab, .toDmon]
  | .endOfListen => [.agu, .roundStart]
  | .roundClose => [.agu, .postings, .roundStart]
  | .fallbackNoticeAtAnch | .stepNoticeAtAnch | .pulse | .windowEnd => [.anch]
  | .stepNoticeAtCapu | .edgeOfInterest | .guardClose _ | .settle _ | .overdue _ => [.capu]
  | .stepNoticeAtMsch | .fire _ | .markRelease _ => [.msch]
  | .headStandingReport | .scheduleReport => []
  | .configure _ => [.settings, .port]
  | .start => [.terms, .ptab, .agu, .dmon, .port]
  | .settime _ _ _ => [.agu, .postings, .port]
  | .anchor _ _ => [.anch, .port]
  | .take | .label _ _ => [.capu, .port]
  | .stage _ | .arm _ | .stop _ | .entry _ => [.msch, .port]
  | .date | .peek | .status | .peer _ | .warnings | .attention _ | .overrun | .unknownRequest _ | .fullResponsePlaced => [.port]

/-! ## Frames of the shared operations -/

theorem changesOnly_raiseWarning (w : Warning) (s : State) : ChangesOnly [.dmon] s (s.raiseWarning w) := by
  intro b hb
  unfold State.raiseWarning
  split <;> cases b <;> simp_all [Block.Same]

theorem changesOnly_removeWarning (k : WarningKind) (subj : Subject) (s : State) :
    ChangesOnly [.dmon] s (s.removeWarning k subj) := by
  intro b hb
  unfold State.removeWarning
  split <;> cases b <;> simp_all [Block.Same]

theorem changesOnly_onDmon (f : Dmon → Dmon) (s : State) : ChangesOnly [.dmon] s (s.onDmon f) := by
  intro b hb
  cases b <;> simp_all [Block.Same]

theorem changesOnly_onAnch (f : Anch → Anch) (s : State) : ChangesOnly [.anch] s (s.onAnch f) := by
  intro b hb
  cases b <;> simp_all [Block.Same]

theorem changesOnly_onSpan (f : Span → Span) (s : State) : ChangesOnly [.span] s (s.onSpan f) := by
  intro b hb
  cases b <;> simp_all [Block.Same]

theorem changesOnly_onEclk (f : Eclk → Eclk) (s : State) : ChangesOnly [.clock, .terms] s (s.onEclk f) := by
  intro b hb
  cases b <;> simp_all [Block.Same]

theorem changesOnly_sendWarn (ws : List WarnNotice) (s : State) : ChangesOnly [] s (s.sendWarn ws) := by
  intro b hb
  cases b <;> simp_all [Block.Same]

theorem changesOnly_warnVerdict (kind : WarningKind) (subj : Subject) (v v' : Verdict) (d : Int) (s : State) :
    ChangesOnly [.dmon] s (s.warnVerdict kind subj v v' d) := by
  unfold State.warnVerdict
  split
  · exact ChangesOnly.refl _ _
  split
  · exact changesOnly_raiseWarning _ _
  split
  · exact changesOnly_removeWarning _ _ _
  · exact ChangesOnly.refl _ _

theorem changesOnly_judgePeer (ref : Int) (rate : Option Int) (p : Station) (s : State) :
    ChangesOnly [.dmon] s (s.judgePeer ref rate p) := by
  cases rate with
  | none => exact ChangesOnly.refl _ _
  | some rho => exact (changesOnly_onDmon _ s).trans (changesOnly_warnVerdict _ _ _ _ _ _)

theorem changesOnly_foldl_judgePeer (ref : Int) (rate : Station → Option Int) (ps : List Station) (s : State) :
    ChangesOnly [.dmon] s (ps.foldl (fun t p => t.judgePeer ref (rate p) p) s) := by
  induction ps generalizing s with
  | nil => exact ChangesOnly.refl _ _
  | cons p ps ih => exact (changesOnly_judgePeer ref (rate p) p s).trans (ih _)

theorem changesOnly_judgeAll (ref : Int) (s : State) : ChangesOnly [.dmon] s (judgeAll ref s) :=
  (changesOnly_foldl_judgePeer ref (reviewRate s) stations s).trans
    ((changesOnly_onDmon _ _).trans (changesOnly_warnVerdict _ _ _ _ _ _))

theorem changesOnly_lose (s : State) : ChangesOnly [.anch] s s.lose :=
  (changesOnly_onAnch _ s).trans ((changesOnly_sendWarn _ _).mono (by simp))

theorem changesOnly_takeEarlyPulse (p : Pulse) (w : AnchorWindow) (s : State) : ChangesOnly [.anch] s (s.takeEarlyPulse p w) := by
  unfold State.takeEarlyPulse
  split
  · exact changesOnly_onAnch _ _
  split
  · exact ChangesOnly.refl _ _
  split
  · exact changesOnly_lose _
  · exact changesOnly_onAnch _ _

theorem changesOnly_takeGoodPulse (p : Pulse) (s : State) : ChangesOnly [.anch] s (s.takeGoodPulse p) := by
  unfold State.takeGoodPulse
  split
  · split <;> intro b hb <;> cases b <;> simp_all [Block.Same]
  · intro b hb
    cases b <;> simp_all [Block.Same]

theorem changesOnly_takePulse (p : Pulse) (s : State) : ChangesOnly [.anch] s (s.takePulse p) := by
  unfold State.takePulse
  split
  · split
    · exact changesOnly_onAnch _ _
    · exact ChangesOnly.refl _ _
  split
  · exact changesOnly_takeEarlyPulse _ _ _
  · exact changesOnly_takeGoodPulse _ _

theorem changesOnly_endWindow (w : AnchorWindow) (s : State) : ChangesOnly [.anch] s (s.endWindow w) := by
  unfold State.endWindow
  split
  · exact changesOnly_onAnch _ _
  split
  · exact (changesOnly_onAnch _ s).trans (changesOnly_onAnch _ _)
  · split
    · exact (changesOnly_onAnch _ s).trans (changesOnly_lose _)
    · exact (changesOnly_onAnch _ s).trans (changesOnly_onAnch _ _)
  · exact changesOnly_onAnch _ _

theorem changesOnly_takeEdge (l : CapLineNo) (e : Edge) (s : State) : ChangesOnly [.capu] s (s.takeEdge l e) := by
  intro b hb
  unfold State.takeEdge State.storeCapture State.followerEdge State.overflowCapture
  repeat' split
  all_goals cases b <;> simp_all [Block.Same]

theorem changesOnly_countTick (s : State) : ChangesOnly [.tick] s s.countTick := by
  intro b hb
  unfold State.countTick
  split <;> cases b <;> simp_all [Block.Same]

theorem changesOnly_sendStep (c : Int) (s : State) : ChangesOnly [] s (s.sendStep c) := by
  intro b hb
  cases b <;> simp_all [Block.Same]

theorem changesOnly_updateBoundary (s : State) : ChangesOnly [.clock, .terms] s s.updateBoundary := by
  unfold State.updateBoundary
  split
  · exact (changesOnly_onEclk _ s).trans ((changesOnly_sendStep _ _).mono (by simp))
  · exact changesOnly_onEclk _ _

theorem changesOnly_advance (s : State) : ChangesOnly [.clock, .terms] s s.advance := by
  unfold State.advance
  split
  · exact (changesOnly_onEclk _ s).trans (changesOnly_updateBoundary _)
  · exact changesOnly_onEclk _ _

theorem changesOnly_sampleInputs (caps : BitVec 8) (ref : Bool) (s : State) :
    ChangesOnly [.anch, .capu] s (s.sampleInputs caps ref) := by
  intro b hb
  cases b <;> simp_all [Block.Same, State.sampleInputs]

theorem changesOnly_takePosting (p : Posting) (s : State) : ChangesOnly [.terms] s (s.takePosting p) := by
  intro b hb
  cases p <;> unfold State.takePosting <;> dsimp only <;> (try split) <;> cases b <;> simp_all [Block.Same]

theorem changesOnly_classFrame (f : Frame) (r : Readings) (s : State) : ChangesOnly [.span, .handOffs] s (s.classFrame f r) := by
  intro b hb
  unfold State.classFrame State.hearDuplicate
  repeat' split
  all_goals cases b <;> simp_all [Block.Same]

/-! ## Requests -/

theorem changesOnly_takeRequest {ws : List Block} {act : State → State × Status × List Byte} (code : Byte)
    (hport : .port ∈ ws) (hact : ∀ s, ChangesOnly ws s (act s).1) (s : State) : ChangesOnly ws s (takeRequest code act s) := by
  have hsub : [Block.port] ⊆ ws := by simpa using hport
  unfold takeRequest
  split
  · refine ChangesOnly.mono ?_ hsub
    intro b hb
    cases b <;> simp_all [Block.Same]
  · have hbegin : ChangesOnly [.port] s (s.beginRequest code) := by
      intro b hb
      cases b <;> simp_all [Block.Same]
    have hanswer (status : Status) (body : List Byte) (t : State) : ChangesOnly [.port] t (t.answer status body) := by
      intro b hb
      cases b <;> simp_all [Block.Same]
    exact ((hbegin.mono hsub).trans (hact _)).trans ((hanswer _ _ _).mono hsub)

/-! ## Every command -/

/-- R76: no close leads into CONFIG. -/
theorem syncAfter_ne_config (outcome : RoundOutcome) (eligible : Nat) : syncAfter outcome eligible ≠ .config := by
  cases outcome
  case agreed => simp [syncAfter]
  all_goals
    simp only [syncAfter, ne_eq]
    split_ifs <;> decide

/-- A notice taken that stands in none of the blocks' lists. -/
theorem changesOnly_notices {ws : List Block} {f : InFlight → InFlight} (s : State) (hagu : (f s.net).postAgu = s.net.postAgu)
    (hdmon : (f s.net).postDmon = s.net.postDmon) (hsvc : (f s.net).postSvc = s.net.postSvc)
    (hround : (f s.net).roundStart = s.net.roundStart) (hhand : (f s.net).handOffs = s.net.handOffs)
    (hto : (f s.net).toDmon = s.net.toDmon) : ChangesOnly ws s (s.onNet f) := by
  intro b hb
  cases b <;> simp [Block.Same, hagu, hdmon, hsvc, hround, hhand, hto]

theorem changesOnly_post (src : Poster) (p : Posting) (s : State) : ChangesOnly [.postings] s (s.post src p) := by
  intro b hb
  cases src <;> cases b <;> simp_all [Block.Same]

theorem changesOnly_conclusiveReview (s : State) : ChangesOnly [.dmon, .postings] s (conclusiveReview s) :=
  (((changesOnly_judgeAll _ s).trans (changesOnly_onDmon _ _)).mono (by simp)).trans
    ((changesOnly_post _ _ _).mono (by simp))

theorem execPulse_changesOnly (s : State) : Leads (ChangesOnly [.anch] s) (execPulse s) := by
  unfold execPulse
  split
  · exact (leads_next _ _).2 (.refl _ _)
  · have htaken (p : Pulse) (f : Anch → Anch) : ChangesOnly [.anch] s ((s.onAnch f).takePulse p) :=
      (changesOnly_onAnch _ s).trans (changesOnly_takePulse _ _)
    split
    · exact (leads_next _ _).2 (changesOnly_onAnch _ s)
    · exact (leads_next _ _).2 (changesOnly_onAnch _ s)
    all_goals
      split
      · exact (leads_next _ _).2 (.refl _ _)
      · exact (leads_next _ _).2 (htaken _ _)

/-- The commands that change SPAN and nothing else that a block holds. -/
theorem exec_span_changesOnly (c : Instr) (hc : writes c = [.span]) (s : State) : Leads (ChangesOnly [.span] s) (exec c s) := by
  cases c
  case endOfSyncMark | scheduledLaunch | transmissionStart | mismatch | deferralLimit | accusationList | bitTime =>
    simp only [exec, execEndOfSyncMark, execScheduledLaunch, execTransmissionStart, execMismatch, execDeferralLimit,
      execAccusationList, execBitTime]
    repeat' split
    all_goals first
      | exact (leads_next _ _).2 (.refl _ _)
      | exact (leads_next _ _).2 (changesOnly_onSpan _ s)
  case beaconCompletion =>
    simp only [exec, execBeaconCompletion]
    repeat' split
    case isTrue => exact (leads_next _ _).2 ((changesOnly_onSpan _ s).trans (changesOnly_notices _ rfl rfl rfl rfl rfl rfl))
    all_goals exact (leads_next _ _).2 (.refl _ _)
  all_goals cases hc

/-- The requests of the service port (R180). -/
theorem exec_request_changesOnly (c : Instr) (hc : (encodeRequest c).isSome) (s : State) :
    Leads (ChangesOnly (writes c) s) (exec c s) := by
  cases c
  case configure | start | restart | settime | anchor | date | peek | take | label | stage | arm | stop | entry | status | peer
      | warnings | attention =>
    refine (leads_next _ _).2 (changesOnly_takeRequest _ (by simp [writes]) (fun s b hb => ?_) s)
    simp only [takeConfigure, takeStart, takeRestart, takeSettime, takeAnchor, takeDate, takePeek, takeTake, takeLabel, takeStage,
      takeArm, takeStop, takeEntry, takeStatus, takePeer, takeWarnings, takeAttention, unchanged]
    repeat' split
    all_goals cases b <;>
      simp_all [Block.Same, writes, restartAll, restartNet, restartSvc, restartEclk, startAll, setMask, State.removeHead]
  all_goals cases hc

/-- Every command answers a next state, which differs in the blocks it writes only. -/
theorem exec_changesOnly (c : Instr) (s : State) : Leads (ChangesOnly (writes c) s) (exec c s) := by
  cases c
  case tick caps ref =>
    exact (leads_next _ _).2
      (((changesOnly_countTick s).mono (by simp [writes])).trans
        (((changesOnly_advance _).mono (by simp [writes])).trans ((changesOnly_sampleInputs _ _ _).mono (by simp [writes]))))
  case posting src =>
    simp only [exec, execPosting]
    split
    · exact (leads_next _ _).2 (.refl _ _)
    · refine (leads_next _ _).2 (ChangesOnly.trans (fun b hb => ?_) ((changesOnly_takePosting _ _).mono (by simp [writes])))
      cases src <;> cases b <;> simp_all [Block.Same, writes, InFlight.setPostings]
  case fallbackNoticeAtDmon =>
    simp only [exec, execFallbackNoticeAtDmon]
    split
    · exact (leads_next _ _).2 (.refl _ _)
    · exact (leads_next _ _).2 ((changesOnly_notices _ rfl rfl rfl rfl rfl rfl).trans (changesOnly_raiseWarning _ _))
  case duplicateNotice =>
    simp only [exec, execDuplicateNotice]
    split
    · exact (leads_next _ _).2 (.refl _ _)
    · exact (leads_next _ _).2 ((changesOnly_notices _ rfl rfl rfl rfl rfl rfl).trans (changesOnly_raiseWarning _ _))
  case raiseNotice k =>
    simp only [exec, execRaiseNotice]
    split
    · exact (leads_next _ _).2 ((changesOnly_notices _ rfl rfl rfl rfl rfl rfl).trans (changesOnly_raiseWarning _ _))
    · exact (leads_next _ _).2 (.refl _ _)
  case removalNotice k =>
    simp only [exec, execRemovalNotice]
    split
    · exact (leads_next _ _).2 ((changesOnly_notices _ rfl rfl rfl rfl rfl rfl).trans (changesOnly_removeWarning _ _ _))
    · exact (leads_next _ _).2 (.refl _ _)
  case review =>
    simp only [exec, execReview]
    split
    · split
      · exact (leads_next _ _).2 ((changesOnly_onDmon _ _).mono (by simp [writes]))
      · exact (leads_next _ _).2 (changesOnly_conclusiveReview s)
    · exact (leads_next _ _).2 (.refl _ _)
  case receptionEnd =>
    simp only [exec, execReceptionEnd]
    split
    · exact (leads_next _ _).2 (.refl _ _)
    · split
      · exact (leads_next _ _).2
          (((changesOnly_onSpan _ s).mono (by simp [writes])).trans (changesOnly_classFrame _ _ _))
      · exact (leads_next _ _).2 ((changesOnly_onSpan _ s).mono (by simp [writes]))
  case pulse => exact execPulse_changesOnly s
  case windowEnd =>
    simp only [exec, execWindowEnd]
    repeat' split
    case isTrue => exact (leads_next _ _).2 (changesOnly_endWindow _ _)
    all_goals exact (leads_next _ _).2 (.refl _ _)
  case edgeOfInterest =>
    simp only [exec, execEdgeOfInterest]
    repeat' split
    case h_2 => exact (leads_next _ _).2 (changesOnly_takeEdge _ _ _)
    all_goals exact (leads_next _ _).2 (.refl _ _)
  case configure | start | restart | settime | anchor | date | peek | take | label | stage | arm | stop | entry | status | peer
      | warnings | attention => exact exec_request_changesOnly _ rfl s
  case endOfSyncMark | scheduledLaunch | transmissionStart | mismatch | deferralLimit | accusationList | bitTime
      | beaconCompletion => exact exec_span_changesOnly _ rfl s
  case unknownRequest code =>
    simp only [exec, execUnknownRequest]
    split
    · exact (leads_next _ _).2 (.refl _ _)
    · exact (leads_next _ _).2 (changesOnly_takeRequest _ (by simp [writes]) (fun t => .refl _ t) s)
  all_goals
    simp only [exec, execFullReset, execPrimaryLost, execFallbackNoticeAtAgu, execFallbackNoticeAtAnch,
      execRoundStartNotice, 
      execCompletionNotice, execHandOff, execBarExpiry, execSilenceExpiry, execDissentNotice,
      execRebaseNotice, execEndOfListen, execRoundClose, execStepNoticeAtAgu, execStepNoticeAtDmon, execStepNoticeAtAnch,
      execStepNoticeAtCapu, execStepNoticeAtMsch, execSample, execLeaveNotice, execWindowNotice, execGuardClose, execSettle,
      execOverdue, execHeadStandingReport, execFire, execMarkRelease, execScheduleReport, execOverrun,
      execFullResponsePlaced]
    repeat' split
    all_goals
      refine (leads_next _ _).2 fun b hb => ?_
      cases b <;> simp_all [Block.Same, writes, closeRound, netAfterClose, placeResponse, aguAfterClose, syncAfter_ne_config]

/-! ## Properties that speak of some blocks -/

/-- `P` speaks of these blocks only. -/
def Reads (bs : List Block) (P : State → Prop) : Prop := ∀ s t, (∀ b ∈ bs, b.Same s t) → P s → P t

/-- A command that writes none of the blocks `P` speaks of keeps `P`. -/
theorem Reads.exec_keeps {bs : List Block} {P : State → Prop} (hP : Reads bs P) {c : Instr} (hc : ∀ b ∈ bs, b ∉ writes c)
    {s : State} (h : P s) : Leads P (exec c s) :=
  (exec_changesOnly c s).mono fun t ht => hP s t (fun b hb => ht b (hc b hb)) h

theorem Reads.keeps {bs ws : List Block} {P : State → Prop} (hP : Reads bs P) {s t : State} (hst : ChangesOnly ws s t)
    (hdisj : ∀ b ∈ bs, b ∉ ws) (h : P s) : P t :=
  hP s t (fun b hb => hst b (hdisj b hb)) h

/-- R168: taking a request changes no more than the port and what the request itself changes. -/
theorem Reads.takeRequest_keeps {bs : List Block} {P : State → Prop} (hP : Reads bs P) (hport : .port ∉ bs) {code : Byte}
    {act : State → State × Status × List Byte} (hact : ∀ s, P s → P (act s).1) {s : State} (h : P s) :
    P (takeRequest code act s) := by
  have hkeep {t u : State} (htu : ChangesOnly [.port] t u) (ht : P t) : P u :=
    hP.keeps htu (fun b hb => by simpa using ne_of_mem_of_not_mem hb hport) ht
  unfold takeRequest
  split
  · refine hkeep (fun b hb => ?_) h
    cases b <;> simp_all [Block.Same]
  · refine hkeep (t := (act (s.beginRequest code)).1) (fun b hb => ?_) (hact _ (hkeep (fun b hb => ?_) h))
    all_goals cases b <;> simp_all [Block.Same]

/-! ## Steps -/

/-- A property that does not speak of the queue, and that every command keeps while `K` holds, is kept by a step. -/
theorem step_keeps_if {P K : State → Prop} (hP : ∀ s l, P s → P { s with pending := l })
    (hK : ∀ s l, K s → K { s with pending := l }) (hexec : ∀ c s, K s → P s → Leads P (exec c s)) {s t : State} (hs : P s)
    (hks : K s) (hst : step s = .next t) : P t := by
  unfold step at hst
  split at hst
  · cases hst
    exact hs
  · exact (hexec _ _ (hK _ _ hks) (hP _ _ hs)).of_next hst

theorem step_keeps {P : State → Prop} (hP : ∀ s l, P s → P { s with pending := l })
    (hexec : ∀ c s, P s → Leads P (exec c s)) (s t : State) (hs : P s) (hst : step s = .next t) : P t :=
  step_keeps_if (K := fun _ => True) hP (fun _ _ h => h) (fun c s _ => hexec c s) hs trivial hst

/-! ## What follows for every command -/

/-- Settles O2: the queue stands in no block that a command writes. -/
theorem everyCommandAnswersNext : Obligations.EveryCommandAnswersNext := by
  intro c s
  obtain ⟨t, ht, hframe⟩ := exec_changesOnly c s
  exact ⟨t, ht, hframe .queue (by cases c <;> simp [writes])⟩

/-- Settles O3: the tick counter and the clock stand in blocks that no other command writes. -/
theorem onlyTickAndResetMoveTime : Obligations.OnlyTickAndResetMoveTime := by
  intro c s t ht htick hreset
  have hframe := (exec_changesOnly c s).of_next ht
  have hclock : Block.tick ∉ writes c ∧ Block.clock ∉ writes c := by cases c <;> simp_all [writes]
  obtain ⟨hs, hns, hsub, htrim, htotal⟩ := hframe .clock hclock.2
  exact ⟨hframe .tick hclock.1, hs, hns, hsub, htrim, htotal⟩

/-- Settles O1. -/
theorem stepRunsTheFrontCommand : Obligations.StepRunsTheFrontCommand :=
  ⟨fun _ _ _ => rfl, fun s hs => by unfold step; rw [hs]⟩

end Sys2Proof.Frames
end

section
/-! The schedule table (chapter 8): its ranges, which every command keeps, and what a cascade of fires leaves. Both come from one
induction over the cascade: `fireEntry` changes the table by fires of one entry and arms of one entry, and by nothing else. -/

namespace Sys2Proof.Schedule

open Sys2Proof.Machine Sys2Proof.Frames

/-! ## One entry of the table -/

@[simp] theorem setEntry_lines (n : EntryNo) (e : SchedEntry) (m : Msch) : (m.setEntry n e).lines = m.lines := rfl

theorem setEntry_entries (n k : EntryNo) (e : SchedEntry) (m : Msch) :
    (m.setEntry n e).entries[k] = if n = k then e else m.entries[k] := by
  simp [Msch.setEntry, Vector.getElem_set, Fin.ext_iff]

@[simp] theorem setEntry_entries_self (n : EntryNo) (e : SchedEntry) (m : Msch) : (m.setEntry n e).entries[n] = e := by
  simp [Msch.setEntry]

theorem fireOnce_entries (ctx : FireContext) (late : Bool) (n k : EntryNo) (m : Msch) :
    (m.fireOnce ctx late n).entries[k] = if n = k then firedEntry ctx late m.entries[n] else m.entries[k] := by
  simp [Msch.fireOnce, Vector.getElem_set, Fin.ext_iff]

theorem armable_eq_some (e : SchedEntry) (t : Nat) :
    armable e = some t ↔ e.armed = false ∧ e.staged = true ∧ e.stagingFire = some t := by
  simp [armable, and_assoc]

/-! ## Ranges of an entry (R143, R145, R152) -/

theorem startCount_le {p : Program} (h : ProgramInRange p) : startCount p ≤ 65535 := by
  obtain ⟨-, -, hcount, -⟩ := h
  unfold startCount
  split <;> omega

theorem startCount_pos {p : Program} (h : 1 ≤ p.count) : 1 ≤ startCount p := by
  unfold startCount
  split <;> omega

theorem programInRange_with_count {p : Program} (h : ProgramInRange p) {c : Nat} (hc : c ≤ 65535) :
    ProgramInRange { p with count := c } := by
  obtain ⟨hlo, hhi, -, hrest⟩ := h
  exact ⟨hlo, hhi, hc, hrest⟩

theorem entryInRange_countSuppressed {e : SchedEntry} (h : EntryInRange e) (ctx : FireContext) :
    EntryInRange (countSuppressed ctx e) := by
  obtain ⟨hlive, hstaging, hskipped, hsuppressed, hleft, hstaged⟩ := h
  unfold countSuppressed
  split
  · exact ⟨hlive, hstaging, hskipped, hsuppressed, hleft, hstaged⟩
  · exact ⟨hlive, hstaging, hskipped, Nat.min_le_left _ _, hleft, hstaged⟩

theorem entryInRange_takeUpStaging {e : SchedEntry} (h : EntryInRange e) : EntryInRange (takeUpStaging e) := by
  obtain ⟨hlive, hstaging, hskipped, hsuppressed, hleft, hstaged⟩ := h
  unfold takeUpStaging
  split
  next hst =>
    exact ⟨programInRange_with_count hstaging (startCount_le hstaging), hstaging, hskipped, hsuppressed,
      fun _ => startCount_pos (hstaged hst), nofun⟩
  · exact ⟨hlive, hstaging, hskipped, hsuppressed, hleft, hstaged⟩

theorem entryInRange_skipPast {e : SchedEntry} (h : EntryInRange e) (clock : Nat) : EntryInRange (skipPast clock e) := by
  obtain ⟨hlive, hstaging, -, hrest⟩ := h
  exact ⟨hlive, hstaging, Nat.min_le_left _ _, hrest⟩

theorem entryInRange_countFire {e : SchedEntry} (h : EntryInRange e) (clock next : Nat) :
    EntryInRange (countFire clock next e) := by
  obtain ⟨hlive, hstaging, hskipped, hsuppressed, -, hstaged⟩ := h
  have hcount := hlive.2.2.1
  have hreload := hlive.2.2.2
  unfold countFire
  split
  next hmore =>
    exact entryInRange_skipPast (e := { e with live := { e.live with count := e.live.count - 1 }, fire := next })
      ⟨programInRange_with_count hlive (by omega), hstaging, hskipped, hsuppressed, fun _ => Nat.le_sub_one_of_lt hmore, hstaged⟩ _
  · split
    · refine entryInRange_skipPast (e := { e with
          live := { e.live with count := e.live.reload }, fire := next, completion := e.completion || e.live.report }) ?_ _
      exact ⟨programInRange_with_count hlive hreload.2.1, hstaging, hskipped, hsuppressed, fun _ => hreload.1, hstaged⟩
    all_goals exact ⟨programInRange_with_count hlive (by omega), hstaging, hskipped, hsuppressed, nofun, hstaged⟩

theorem entryInRange_late {e : SchedEntry} (h : EntryInRange e) (b : Bool) : EntryInRange { e with late := b } := h

theorem entryInRange_firedEntry {e : SchedEntry} (h : EntryInRange e) (ctx : FireContext) (late : Bool) :
    EntryInRange (firedEntry ctx late e) :=
  entryInRange_countFire (entryInRange_takeUpStaging (entryInRange_late (entryInRange_countSuppressed h ctx) _)) _ _

theorem entryInRange_armedEntry {e : SchedEntry} (h : EntryInRange e) (hst : e.staged = true) (t : Nat) :
    EntryInRange (armedEntry t e) := by
  obtain ⟨-, hstaging, -, -, -, hstaged⟩ := h
  exact ⟨programInRange_with_count hstaging (startCount_le hstaging), hstaging, Nat.zero_le _, Nat.zero_le _,
    fun _ => startCount_pos (hstaged hst), nofun⟩

/-! ## Ranges of the table (R143, R150) -/

/-- The part of `ScheduleStanding` that holds of the table alone. -/
def TableInRange (m : Msch) : Prop :=
  (∀ n : EntryNo, EntryInRange m.entries[n]) ∧ ∀ l : MarkLineNo, m.lines[l].high = true → m.lines[l].release.isSome

theorem TableInRange.setEntry {m : Msch} (h : TableInRange m) {n : EntryNo} {e : SchedEntry} (he : EntryInRange e) :
    TableInRange (m.setEntry n e) := by
  refine ⟨fun k => ?_, h.2⟩
  rw [setEntry_entries]
  split
  · exact he
  · exact h.1 k

theorem driveMark_release {ctx : FireContext} {p : Program} {lines : Vector MarkLine 4}
    (h : ∀ l : MarkLineNo, lines[l].high = true → lines[l].release.isSome) (l : MarkLineNo) :
    (driveMark ctx p lines)[l].high = true → (driveMark ctx p lines)[l].release.isSome := by
  unfold driveMark
  split
  · exact h l
  · split
    · simp only [Fin.getElem_fin, Vector.getElem_set]
      split
      · exact fun _ => rfl
      · exact h l
    · exact h l

theorem TableInRange.fireOnce {m : Msch} (h : TableInRange m) (ctx : FireContext) (late : Bool) (n : EntryNo) :
    TableInRange (m.fireOnce ctx late n) := by
  refine ⟨fun k => ?_, driveMark_release h.2⟩
  rw [fireOnce_entries]
  split
  · exact entryInRange_firedEntry (h.1 n) ctx late
  · exact h.1 k

/-- An entry that completes without being able to arm its chain is only marked. -/
theorem entryInRange_chainRefused {e : SchedEntry} (h : EntryInRange e) : EntryInRange { e with chainRefused := true } := h

/-! ## A cascade, case by case (R152, R153) -/

theorem chainAfter_eq_none (e : SchedEntry) : chainAfter e = none ↔ e.armed = true ∨ e.live.chain = none := by
  cases h : e.armed <;> simp [chainAfter, h]

theorem chainAfter_eq_some (e : SchedEntry) (target : EntryNo) :
    chainAfter e = some target ↔ e.armed = false ∧ e.live.chain = some target := by
  cases h : e.armed <;> simp [chainAfter, h]

section
variable {ctx : FireContext} {late : Bool} {n target : EntryNo} {m : Msch} (fuel : Nat)

theorem fireEntry_alone (h : chainAfter (m.fireOnce ctx late n).entries[n] = none) :
    m.fireEntry ctx (fuel + 1) late n = m.fireOnce ctx late n := by
  simp only [Msch.fireEntry, h]

theorem fireEntry_refused (h : chainAfter (m.fireOnce ctx late n).entries[n] = some target)
    (ht : armable (m.fireOnce ctx late n).entries[target] = none) :
    m.fireEntry ctx (fuel + 1) late n =
      (m.fireOnce ctx late n).setEntry n { (m.fireOnce ctx late n).entries[n] with chainRefused := true } := by
  simp only [Msch.fireEntry, h, ht]

theorem fireEntry_chained (h : chainAfter (m.fireOnce ctx late n).entries[n] = some target) {t : Nat}
    (ht : armable (m.fireOnce ctx late n).entries[target] = some t) (hclock : ctx.clock < t) :
    m.fireEntry ctx (fuel + 1) late n =
      (m.fireOnce ctx late n).setEntry target (armedEntry t (m.fireOnce ctx late n).entries[target]) := by
  simp only [Msch.fireEntry, h, ht, if_neg (Nat.not_le.2 hclock)]

theorem fireEntry_cascaded (h : chainAfter (m.fireOnce ctx late n).entries[n] = some target) {t : Nat}
    (ht : armable (m.fireOnce ctx late n).entries[target] = some t) (hclock : t ≤ ctx.clock) :
    m.fireEntry ctx (fuel + 1) late n =
      ((m.fireOnce ctx late n).setEntry target (armedEntry t (m.fireOnce ctx late n).entries[target])).fireEntry ctx fuel true
        target := by
  simp only [Msch.fireEntry, h, ht, if_pos hclock]

end

/-- What fires, refusals and arms keep, a cascade keeps. -/
theorem fireEntry_induction {ctx : FireContext} {P : Msch → Prop} (hfire : ∀ late n m, P m → P (m.fireOnce ctx late n))
    (hrefuse : ∀ n m, P m → P (m.setEntry n { m.entries[n] with chainRefused := true }))
    (harm : ∀ n t m, P m → armable m.entries[n] = some t → P (m.setEntry n (armedEntry t m.entries[n])))
    (fuel : Nat) (late : Bool) (n : EntryNo) (m : Msch) (h : P m) : P (m.fireEntry ctx fuel late n) := by
  induction fuel generalizing late n m with
  | zero => exact h
  | succ fuel ih =>
    have hfired := hfire late n m h
    cases hchain : chainAfter (m.fireOnce ctx late n).entries[n] with
    | none => exact fireEntry_alone fuel hchain ▸ hfired
    | some target =>
      cases ht : armable (m.fireOnce ctx late n).entries[target] with
      | none => exact fireEntry_refused fuel hchain ht ▸ hrefuse n _ hfired
      | some t =>
        have harmed := harm target t _ hfired ht
        rcases Nat.lt_or_ge ctx.clock t with hclock | hclock
        · exact fireEntry_chained fuel hchain ht hclock ▸ harmed
        · exact fireEntry_cascaded fuel hchain ht hclock ▸ ih _ _ _ harmed

theorem TableInRange.fireEntry {m : Msch} (h : TableInRange m) (ctx : FireContext) (fuel : Nat) (late : Bool) (n : EntryNo) :
    TableInRange (m.fireEntry ctx fuel late n) := by
  refine fireEntry_induction (fun late n m hm => hm.fireOnce ctx late n) (fun n m hm => hm.setEntry (entryInRange_chainRefused (hm.1 n)))
    (fun n t m hm ht => ?_) fuel late n m h
  exact hm.setEntry (entryInRange_armedEntry (hm.1 n) ((armable_eq_some _ _).1 ht).2.1 t)

theorem fireDue_of_idle (ctx : FireContext) {e : SchedEntry} (h : e.armed = false) : fireDue ctx e = false := by
  simp [fireDue, h]

/-- With no entry due there is nothing to catch up. -/
theorem catchUpAll_of_not_due {ctx : FireContext} {m : Msch} (h : ∀ n : EntryNo, fireDue ctx m.entries[n] = false) :
    catchUpAll ctx m = m := by
  unfold catchUpAll
  refine List.foldlRecOn (motive := fun m' => m' = m) _ _ rfl fun m' hm n _ => ?_
  rw [hm, h n]
  rfl

theorem TableInRange.catchUpAll {m : Msch} (h : TableInRange m) (ctx : FireContext) : TableInRange (catchUpAll ctx m) := by
  unfold Machine.catchUpAll
  generalize List.finRange 16 = ns
  induction ns generalizing m with
  | nil => exact h
  | cons n ns ih =>
    refine ih (m := if fireDue ctx m.entries[n] then m.fireEntry ctx cascadeFuel true n else m) ?_
    split
    · exact h.fireEntry _ _ _ _
    · exact h

theorem TableInRange.armEntry {m : Msch} (h : TableInRange m) (ctx : FireContext) {n : EntryNo} {t : Nat}
    (ht : armable m.entries[n] = some t) : TableInRange (m.armEntry ctx n t) := by
  have harmed := h.setEntry (n := n) (entryInRange_armedEntry (h.1 n) ((armable_eq_some _ _).1 ht).2.1 t)
  unfold Msch.armEntry
  dsimp only
  split
  · exact harmed.fireEntry _ _ _ _
  · exact harmed

theorem programInRange_reset : ProgramInRange Program.reset := by
  simp [ProgramInRange, Program.reset]

theorem entryInRange_reset : EntryInRange SchedEntry.reset :=
  ⟨programInRange_reset, programInRange_reset, Nat.zero_le _, Nat.zero_le _, nofun, nofun⟩

theorem tableInRange_reset : TableInRange Msch.reset :=
  ⟨fun n => by simpa [Msch.reset] using entryInRange_reset, fun l => by simp [Msch.reset]⟩

/-! ## The staging that STAGE writes (R144) -/

theorem clampNat_range {lo hi : Nat} (h : lo ≤ hi) (x : Nat) : lo ≤ clampNat lo hi x ∧ clampNat lo hi x ≤ hi := by
  unfold clampNat
  split_ifs <;> omega

theorem stagedProgram_inRange (a : StageArgs) (output : Option MarkLineNo) (chain : Option EntryNo) :
    ProgramInRange (stagedProgram a output chain) ∧ 1 ≤ (stagedProgram a output chain).count := by
  have hperiod := clampNat_range (lo := 1000) (hi := 1000000000000) (by decide) a.period.toNat
  have hcount := clampNat_range (lo := 1) (hi := 65535) (by decide) a.count.toNat
  have hreload := clampNat_range (lo := 1) (hi := 65535) (by decide) a.reload.toNat
  have hwidth := clampNat_range (lo := 40) (hi := 1000000) (by decide) a.width.toNat
  have hlow : 1 ≤ (stagedProgram a output chain).width := by
    simp only [stagedProgram, ceilDiv, Config.nsPerTick]
    omega
  have hhigh : (stagedProgram a output chain).width ≤ 25000 := by
    simp only [stagedProgram, ceilDiv, Config.nsPerTick]
    omega
  exact ⟨⟨hperiod.1, hperiod.2, hcount.2, hreload.1, hreload.2, hlow, hhigh⟩, hcount.1⟩

theorem entryInRange_stagedEntry {e : SchedEntry} (h : EntryInRange e) (a : StageArgs) (output : Option MarkLineNo)
    (chain : Option EntryNo) : EntryInRange (stagedEntry a output chain e) := by
  obtain ⟨hlive, -, hskipped, hsuppressed, hleft, -⟩ := h
  obtain ⟨hrange, hcount⟩ := stagedProgram_inRange a output chain
  exact ⟨hlive, hrange, hskipped, hsuppressed, hleft, fun _ => hcount⟩

/-! ## Every command -/

/-- In CONFIG nothing is armed or staged (R160). -/
def IdleInConfig (s : State) : Prop :=
  s.agu.sync = .config → ∀ n : EntryNo, s.msch.entries[n].armed = false ∧ s.msch.entries[n].staged = false

theorem scheduleStanding_iff (s : State) : ScheduleStanding s ↔ TableInRange s.msch ∧ IdleInConfig s := by
  simp only [ScheduleStanding, TableInRange, IdleInConfig, and_assoc]

theorem scheduleStanding_reads : Reads [.msch, .config] ScheduleStanding := by
  intro s t hsame h
  have hm : t.msch = s.msch := hsame .msch (by simp)
  have hc : t.agu.sync = .config → s.agu.sync = .config := hsame .config (by simp)
  obtain ⟨hentries, hlines, hidle⟩ := h
  refine ⟨?_, ?_, ?_⟩ <;> rw [hm]
  exacts [hentries, hlines, fun hs => hidle (hc hs)]

/-- Outside CONFIG the table's ranges are all there is to keep. -/
theorem ScheduleStanding.onMsch {s : State} (f : Msch → Msch) (hs : s.agu.sync ≠ .config) (hf : TableInRange (f s.msch)) :
    ScheduleStanding (s.onMsch f) :=
  (scheduleStanding_iff _).2 ⟨hf, fun hc => absurd hc hs⟩

theorem sync_ne_config_of_armed {s : State} (h : ScheduleStanding s) {n : EntryNo} (hn : s.msch.entries[n].armed = true) :
    s.agu.sync ≠ .config := by
  intro hc
  have hidle := (h.2.2 hc n).1
  rw [hn] at hidle
  cases hidle

theorem stepNoticeAtMsch_keeps {s : State} (h : ScheduleStanding s) : Leads ScheduleStanding (execStepNoticeAtMsch s) := by
  have hs := (scheduleStanding_iff s).1 h
  unfold execStepNoticeAtMsch
  split
  · exact (leads_next _ _).2 h
  next n rest =>
    dsimp only
    split
    · exact (leads_next _ _).2 h
    · refine (leads_next _ _).2 ((scheduleStanding_iff _).2 ⟨?_, fun hc => ?_⟩)
      · simpa only [State.onMsch_msch, State.onNet_msch] using hs.1.catchUpAll _
      · have hidle := hs.2 hc
        rw [State.onMsch_msch, State.onNet_msch, catchUpAll_of_not_due fun n => fireDue_of_idle _ (hidle n).1]
        exact hidle

theorem fire_keeps (n : EntryNo) {s : State} (h : ScheduleStanding s) : Leads ScheduleStanding (execFire n s) := by
  have hs := (scheduleStanding_iff s).1 h
  unfold execFire
  split
  · exact (leads_next _ _).2 h
  · split
    next hdue =>
      have harmed : s.msch.entries[n].armed = true := by
        simp only [fireDue, Bool.and_eq_true] at hdue
        exact hdue.1
      exact (leads_next _ _).2 (ScheduleStanding.onMsch _ (sync_ne_config_of_armed h harmed) (hs.1.fireEntry _ _ _ _))
    · exact (leads_next _ _).2 h

theorem markRelease_keeps (l : MarkLineNo) {s : State} (h : ScheduleStanding s) :
    Leads ScheduleStanding (execMarkRelease l s) := by
  obtain ⟨hentries, hlines, hidle⟩ := h
  unfold execMarkRelease
  split
  · refine (leads_next _ _).2 ⟨hentries, fun k => ?_, hidle⟩
    simp only [State.onMsch_msch, Fin.getElem_fin, Vector.getElem_set]
    split
    · nofun
    · exact hlines k
  · exact (leads_next _ _).2 ⟨hentries, hlines, hidle⟩

section
variable {s : State} (h : ScheduleStanding s)
include h

theorem takeStage_keeps (a : StageArgs) : ScheduleStanding (takeStage a s).1 := by
  have hs := (scheduleStanding_iff s).1 h
  unfold takeStage
  split
  · split
    · exact h
    next hc => exact ScheduleStanding.onMsch _ hc (hs.1.setEntry (entryInRange_stagedEntry (hs.1.1 _) _ _ _))
  · exact h

theorem takeArm_keeps (n : Byte) : ScheduleStanding (takeArm n s).1 := by
  have hs := (scheduleStanding_iff s).1 h
  unfold takeArm
  split
  · exact h
  · split
    · exact h
    next hc =>
      split
      · exact h
      · split
        · exact h
        next ht => exact ScheduleStanding.onMsch _ hc (hs.1.armEntry _ ht)

theorem takeStop_keeps (n : Byte) : ScheduleStanding (takeStop n s).1 := by
  have hs := (scheduleStanding_iff s).1 h
  unfold takeStop
  split
  · exact h
  next n _ =>
    split
    · exact h
    next hc =>
      obtain ⟨hlive, hstaging, hskipped, hsuppressed, -, hstaged⟩ := hs.1.1 n
      exact ScheduleStanding.onMsch _ hc (hs.1.setEntry ⟨hlive, hstaging, hskipped, hsuppressed, nofun, hstaged⟩)

theorem takeEntry_keeps (n : Byte) : ScheduleStanding (takeEntry n s).1 := by
  have hs := (scheduleStanding_iff s).1 h
  unfold takeEntry
  split
  · exact h
  next n _ =>
    refine (scheduleStanding_iff _).2 ⟨hs.1.setEntry (show EntryInRange _ from hs.1.1 n), fun hc k => ?_⟩
    have hidle := hs.2 hc
    simp only [State.onMsch_msch, setEntry_entries]
    split
    · exact hidle n
    · exact hidle k

end

theorem scheduleStanding_reset (straps : Straps) : ScheduleStanding (State.resetWith straps) :=
  (scheduleStanding_iff _).2 ⟨tableInRange_reset, fun _ n => by simp [State.resetWith, Msch.reset, SchedEntry.reset]⟩

theorem exec_scheduleStanding (c : Instr) (s : State) (h : ScheduleStanding s) : Leads ScheduleStanding (exec c s) := by
  by_cases hc : ∀ b ∈ [Block.msch, .config], b ∉ writes c
  · exact scheduleStanding_reads.exec_keeps hc h
  have hrequest {code : Byte} {act : State → State × Status × List Byte}
      (hact : ∀ t, ScheduleStanding t → ScheduleStanding (act t).1) :
      Leads ScheduleStanding (.next (takeRequest code act s)) :=
    (leads_next _ _).2 (scheduleStanding_reads.takeRequest_keeps (by simp) hact h)
  cases c
  case fullReset straps => exact (leads_next _ _).2 (scheduleStanding_reset straps)
  case restart straps =>
    exact hrequest fun t _ =>
      (scheduleStanding_iff _).2 ⟨tableInRange_reset, fun _ n => by simp [takeRestart, restartAll, Msch.reset, SchedEntry.reset]⟩
  case stepNoticeAtMsch => exact stepNoticeAtMsch_keeps h
  case fire n => exact fire_keeps n h
  case markRelease l => exact markRelease_keeps l h
  case stage a => exact hrequest fun t ht => takeStage_keeps ht a
  case arm n => exact hrequest fun t ht => takeArm_keeps ht n
  case stop n => exact hrequest fun t ht => takeStop_keeps ht n
  case entry n => exact hrequest fun t ht => takeEntry_keeps ht n
  all_goals exact absurd (by simp [writes]) hc

/-- Settles O10. -/
theorem scheduleKept : Obligations.ScheduleKept := step_keeps (fun _ _ h => h) exec_scheduleStanding

end Sys2Proof.Schedule
end

section
/-! Fires, cascades and catch-up (R148 to R157). Each arm of a chain uses up a staging, so a cascade has at most as many fires as
there are stagings, and one more; and whatever a cascade has changed is past the clock when it ends. -/

namespace Sys2Proof.Fires

open Sys2Proof.Machine Sys2Proof.Frames Sys2Proof.Schedule

/-! ## The end of a cascade (R153) -/

/-- The entries with a staging that waits. -/
def stagedEntries (m : Msch) : Finset EntryNo := Finset.univ.filter fun k => m.entries[k].staged = true

theorem mem_stagedEntries (m : Msch) (k : EntryNo) : k ∈ stagedEntries m ↔ m.entries[k].staged = true := by
  simp [stagedEntries]

theorem countFire_staged (clock next : Nat) (e : SchedEntry) : (countFire clock next e).staged = e.staged := by
  unfold countFire
  split
  · rfl
  · split <;> rfl

theorem firedEntry_staged (ctx : FireContext) (late : Bool) (e : SchedEntry) : (firedEntry ctx late e).staged = false := by
  have hup (e : SchedEntry) : (takeUpStaging e).staged = false := by
    unfold takeUpStaging
    split
    · rfl
    next h => simpa using h
  simp only [firedEntry, countFire_staged, hup]

theorem stagedEntries_fireOnce (ctx : FireContext) (late : Bool) (n : EntryNo) (m : Msch) :
    stagedEntries (m.fireOnce ctx late n) ⊆ stagedEntries m := by
  intro k hk
  rw [mem_stagedEntries, fireOnce_entries] at hk
  split at hk
  · rw [firedEntry_staged] at hk
    cases hk
  · exact (mem_stagedEntries m k).2 hk

theorem stagedEntries_arm {m : Msch} {n : EntryNo} {t : Nat} (ht : armable m.entries[n] = some t) :
    (stagedEntries (m.setEntry n (armedEntry t m.entries[n]))).card < (stagedEntries m).card := by
  refine Finset.card_lt_card (Finset.ssubset_iff_subset_ne.2 ⟨fun k hk => ?_, fun he => ?_⟩)
  · rw [mem_stagedEntries, setEntry_entries] at hk
    split at hk
    · cases hk
    · exact (mem_stagedEntries m k).2 hk
  · have hn : n ∈ stagedEntries m := (mem_stagedEntries m n).2 ((armable_eq_some _ _).1 ht).2.1
    rw [← he, mem_stagedEntries, setEntry_entries_self] at hn
    cases hn

theorem stagedEntries_chain {ctx : FireContext} {late : Bool} {n target : EntryNo} {m : Msch} {t : Nat}
    (ht : armable (m.fireOnce ctx late n).entries[target] = some t) :
    (stagedEntries ((m.fireOnce ctx late n).setEntry target (armedEntry t (m.fireOnce ctx late n).entries[target]))).card
      < (stagedEntries m).card :=
  (stagedEntries_arm ht).trans_le (Finset.card_le_card (stagedEntries_fireOnce ctx late n m))

theorem card_stagedEntries_lt (m : Msch) : (stagedEntries m).card < cascadeFuel :=
  Nat.lt_succ_of_le ((Finset.card_le_univ _).trans (by simp))

/-- More fuel than stagings is never used up. -/
theorem fireEntry_fuel {ctx : FireContext} {fuel : Nat} (extra : Nat) {late : Bool} {n : EntryNo} {m : Msch}
    (h : (stagedEntries m).card < fuel) : m.fireEntry ctx (fuel + extra) late n = m.fireEntry ctx fuel late n := by
  induction fuel generalizing late n m with
  | zero => exact absurd h (Nat.not_lt_zero _)
  | succ fuel ih =>
    rw [Nat.add_right_comm]
    cases hchain : chainAfter (m.fireOnce ctx late n).entries[n] with
    | none => rw [fireEntry_alone _ hchain, fireEntry_alone _ hchain]
    | some target =>
      cases ht : armable (m.fireOnce ctx late n).entries[target] with
      | none => rw [fireEntry_refused _ hchain ht, fireEntry_refused _ hchain ht]
      | some t =>
        rcases Nat.lt_or_ge ctx.clock t with hclock | hclock
        · rw [fireEntry_chained _ hchain ht hclock, fireEntry_chained _ hchain ht hclock]
        · rw [fireEntry_cascaded _ hchain ht hclock, fireEntry_cascaded _ hchain ht hclock]
          exact ih (Nat.lt_of_lt_of_le (stagedEntries_chain ht) (Nat.le_of_lt_succ h))

/-! ## What a cascade does (R149 to R156) -/

theorem firedOnce (s : State) (late : Bool) (n : EntryNo) {m : Msch} (h : TableInRange m) :
    FiredOnce s late n m (m.fireOnce (fireContext s) late n) :=
  ⟨_, _, firedEntry_fired s late (h.1 n), driveMark_marked s _ _, rfl⟩

theorem armedEntry_eq (t : Nat) (e : SchedEntry) : armedEntry t e = armedAt t e := by
  have hcount : startCount e.staging = if e.staging.mode = .single then 1 else e.staging.count := by
    cases h : e.staging.mode <;> simp [startCount, h]
  simp only [armedEntry, armedAt, taken, hcount]

theorem fireEntry_fired (s : State) {fuel : Nat} {late : Bool} {n : EntryNo} {m : Msch} (hm : TableInRange m)
    (h : (stagedEntries m).card < fuel) : Fired s late n m (m.fireEntry (fireContext s) fuel late n) := by
  induction fuel generalizing late n m with
  | zero => exact absurd h (Nat.not_lt_zero _)
  | succ fuel ih =>
    have hfired := firedOnce s late n hm
    cases hchain : chainAfter (m.fireOnce (fireContext s) late n).entries[n] with
    | none =>
      rw [fireEntry_alone _ hchain]
      exact .alone hfired ((chainAfter_eq_none _).1 hchain)
    | some target =>
      obtain ⟨hdone, htarget⟩ := (chainAfter_eq_some _ _).1 hchain
      cases ht : armable (m.fireOnce (fireContext s) late n).entries[target] with
      | none =>
        rw [fireEntry_refused _ hchain ht]
        refine .refused hfired hdone htarget fun t hat => ?_
        rw [(armable_eq_some _ t).2 hat] at ht
        cases ht
      | some t =>
        have hat := (armable_eq_some _ t).1 ht
        rcases Nat.lt_or_ge (fireContext s).clock t with hclock | hclock
        · rw [fireEntry_chained _ hchain ht hclock, armedEntry_eq]
          exact .chained hfired hdone htarget hat hclock
        · rw [fireEntry_cascaded _ hchain ht hclock]
          have hrest := (hm.fireOnce (fireContext s) late n).setEntry (n := target)
            (entryInRange_armedEntry ((hm.fireOnce (fireContext s) late n).1 target) hat.2.1 t)
          refine .cascaded hfired hdone htarget hat hclock ?_
          rw [← armedEntry_eq]
          exact ih hrest (Nat.lt_of_lt_of_le (stagedEntries_chain ht) (Nat.le_of_lt_succ h))

/-! ## What a cascade leaves (R155, R156) -/

/-- Not ARMED at or behind the clock. -/
def PastClock (clock : Nat) (e : SchedEntry) : Prop := e.armed = true → clock < e.fire

theorem pastClock_skipPast (clock : Nat) {e : SchedEntry} (h : 0 < e.live.period) : PastClock clock (skipPast clock e) :=
  fun _ => (leastSkip_periodsPast h).1

theorem pastClock_countFire (clock next : Nat) {e : SchedEntry} (h : 0 < e.live.period) :
    PastClock clock (countFire clock next e) := by
  unfold countFire
  split
  · exact pastClock_skipPast clock h
  · split
    · exact pastClock_skipPast clock h
    all_goals exact nofun

theorem pastClock_firedEntry (ctx : FireContext) (late : Bool) {e : SchedEntry} (h : EntryInRange e) :
    PastClock ctx.clock (firedEntry ctx late e) := by
  have hup := entryInRange_takeUpStaging (entryInRange_late (entryInRange_countSuppressed h ctx) (e.late || late))
  exact pastClock_countFire _ _ (lt_of_lt_of_le (by decide) hup.1.1)

/-- The entry `n` is past the clock, and so is every other that is not as it was. -/
def Settled (clock : Nat) (n : EntryNo) (m m' : Msch) : Prop :=
  ∀ k : EntryNo, PastClock clock m'.entries[k] ∨ k ≠ n ∧ m'.entries[k] = m.entries[k]

theorem settled_fireOnce (ctx : FireContext) (late : Bool) (n : EntryNo) {m : Msch} (hm : TableInRange m) :
    Settled ctx.clock n m (m.fireOnce ctx late n) := by
  intro k
  rw [fireOnce_entries]
  split
  · exact .inl (pastClock_firedEntry ctx late (hm.1 n))
  next hne => exact .inr ⟨fun he => hne he.symm, rfl⟩

theorem Settled.setEntry {clock : Nat} {n : EntryNo} {m m' : Msch} (h : Settled clock n m m') {k : EntryNo} {e : SchedEntry}
    (he : PastClock clock e) : Settled clock n m (m'.setEntry k e) := by
  intro j
  rw [setEntry_entries]
  split
  · exact .inl he
  · exact h j

/-- After a change of one entry, settling that entry settles both. -/
theorem Settled.trans {clock : Nat} {n k : EntryNo} {m m' m'' : Msch} (h : Settled clock n m m') {e : SchedEntry}
    (h' : Settled clock k (m'.setEntry k e) m'') : Settled clock n m m'' := by
  intro j
  rcases h' j with hpast | ⟨hj, hsame⟩
  · exact .inl hpast
  · rw [setEntry_entries, if_neg fun he => hj he.symm] at hsame
    rw [hsame]
    exact h j

theorem fireEntry_settled (ctx : FireContext) {fuel : Nat} {late : Bool} {n : EntryNo} {m : Msch} (hm : TableInRange m)
    (h : (stagedEntries m).card < fuel) : Settled ctx.clock n m (m.fireEntry ctx fuel late n) := by
  induction fuel generalizing late n m with
  | zero => exact absurd h (Nat.not_lt_zero _)
  | succ fuel ih =>
    have hfired := settled_fireOnce ctx late n hm
    cases hchain : chainAfter (m.fireOnce ctx late n).entries[n] with
    | none =>
      rw [fireEntry_alone _ hchain]
      exact hfired
    | some target =>
      cases ht : armable (m.fireOnce ctx late n).entries[target] with
      | none =>
        rw [fireEntry_refused _ hchain ht]
        refine hfired.setEntry fun harmed => ?_
        rw [((chainAfter_eq_some _ _).1 hchain).1] at harmed
        cases harmed
      | some t =>
        rcases Nat.lt_or_ge ctx.clock t with hclock | hclock
        · rw [fireEntry_chained _ hchain ht hclock]
          exact hfired.setEntry fun _ => hclock
        · rw [fireEntry_cascaded _ hchain ht hclock]
          have hrest := (hm.fireOnce ctx late n).setEntry (n := target)
            (entryInRange_armedEntry ((hm.fireOnce ctx late n).1 target) ((armable_eq_some _ t).1 ht).2.1 t)
          exact hfired.trans (ih hrest (Nat.lt_of_lt_of_le (stagedEntries_chain ht) (Nat.le_of_lt_succ h)))

theorem armEntry_settled (ctx : FireContext) {n : EntryNo} {m : Msch} (hm : TableInRange m) {t : Nat}
    (ht : armable m.entries[n] = some t) : Settled ctx.clock n m (m.armEntry ctx n t) := by
  have harmed := hm.setEntry (n := n) (entryInRange_armedEntry (hm.1 n) ((armable_eq_some _ _).1 ht).2.1 t)
  unfold Msch.armEntry
  dsimp only
  intro k
  split
  · rcases fireEntry_settled ctx (late := true) (n := n) harmed (card_stagedEntries_lt _) k with hpast | ⟨hk, hsame⟩
    · exact .inl hpast
    · rw [setEntry_entries, if_neg fun he => hk he.symm] at hsame
      exact .inr ⟨hk, hsame⟩
  next hclock =>
    rw [setEntry_entries]
    split
    · exact .inl fun _ => Nat.not_le.1 hclock
    next hne => exact .inr ⟨fun he => hne he.symm, rfl⟩

/-! ## Catch-up (R157) -/

theorem fireDue_iff (s : State) (e : SchedEntry) : fireDue (fireContext s) e = true ↔ Due s e := by
  simp only [fireDue, Bool.and_eq_true, decide_eq_true_eq]
  rfl

theorem fireDue_eq_false_iff (s : State) (e : SchedEntry) : fireDue (fireContext s) e = false ↔ ¬Due s e := by
  rw [← fireDue_iff, Bool.not_eq_true]

theorem pastClock_iff (s : State) (e : SchedEntry) : PastClock (fireContext s).clock e ↔ ¬Due s e := by
  unfold PastClock Due
  rw [not_and]
  exact forall_congr' fun _ => Nat.not_le.symm

/-- The entries of `ns`, one after another, each fired if it is due when its turn comes. -/
def catchUp (ctx : FireContext) (ns : List EntryNo) (m : Msch) : Msch :=
  ns.foldl (fun m n => if fireDue ctx m.entries[n] then m.fireEntry ctx cascadeFuel true n else m) m

theorem catchUp_caughtUp (s : State) (ns : List EntryNo) {m : Msch} (hm : TableInRange m) :
    CaughtUp s ns m (catchUp (fireContext s) ns m) := by
  induction ns generalizing m with
  | nil => rfl
  | cons n ns ih =>
    cases hdue : fireDue (fireContext s) m.entries[n] with
    | true =>
      refine ⟨m.fireEntry (fireContext s) cascadeFuel true n, fun _ => fireEntry_fired s hm (card_stagedEntries_lt m),
        fun hn => absurd ((fireDue_iff s _).1 hdue) hn, ?_⟩
      simpa only [catchUp, List.foldl_cons, hdue, if_true] using ih (hm.fireEntry (fireContext s) cascadeFuel true n)
    | false =>
      refine ⟨m, fun hd => absurd hd ((fireDue_eq_false_iff s _).1 hdue), fun _ => rfl, ?_⟩
      simpa only [catchUp, List.foldl_cons, hdue, Bool.false_eq_true, if_false] using ih hm

/-- An entry past the clock stays so, and every entry whose turn comes gets there. -/
theorem catchUp_pastClock (s : State) (ns : List EntryNo) {m : Msch} (hm : TableInRange m) (k : EntryNo)
    (hk : k ∈ ns ∨ PastClock (fireContext s).clock m.entries[k]) :
    PastClock (fireContext s).clock (catchUp (fireContext s) ns m).entries[k] := by
  induction ns generalizing m with
  | nil => simpa [catchUp] using hk
  | cons n ns ih =>
    cases hdue : fireDue (fireContext s) m.entries[n] with
    | true =>
      have hturn : k ∈ ns ∨ PastClock (fireContext s).clock (m.fireEntry (fireContext s) cascadeFuel true n).entries[k] := by
        rcases fireEntry_settled (fireContext s) (late := true) (n := n) hm (card_stagedEntries_lt m) k with hpast | ⟨hne, hsame⟩
        · exact .inr hpast
        · rw [hsame]
          exact hk.imp_left fun hmem => (List.mem_cons.1 hmem).resolve_left hne
      simpa only [catchUp, List.foldl_cons, hdue, if_true] using ih (hm.fireEntry (fireContext s) cascadeFuel true n) hturn
    | false =>
      have hturn : k ∈ ns ∨ PastClock (fireContext s).clock m.entries[k] := by
        rcases hk with hmem | hpast
        · refine (List.mem_cons.1 hmem).symm.imp_right fun he => ?_
          rw [he, pastClock_iff, ← fireDue_eq_false_iff]
          exact hdue
        · exact .inr hpast
      simpa only [catchUp, List.foldl_cons, hdue, Bool.false_eq_true, if_false] using ih hm hturn

/-! ## FIRE -/

theorem execFire_due {n : EntryNo} {s : State} (hnet : ∀ x ∈ s.net.stepMsch, x.tick = s.osc.tick)
    (hdue : Due s s.msch.entries[n]) :
    execFire n s = .next (s.onMsch fun m => m.fireEntry (fireContext s) cascadeFuel false n) := by
  rw [execFire, (overdueNotice_false_iff _ _).2 hnet, if_neg Bool.false_ne_true, if_pos ((fireDue_iff s _).2 hdue)]

theorem execFire_waits {n : EntryNo} {s : State}
    (h : (∃ x ∈ s.net.stepMsch, x.tick ≠ s.osc.tick) ∨ ¬Due s s.msch.entries[n]) : execFire n s = .next s := by
  unfold execFire
  split
  · rfl
  next hnet =>
    rcases h with hlate | hdue
    · exact absurd ((overdueNotice_iff _ _).2 hlate) hnet
    · rw [(fireDue_eq_false_iff s _).2 hdue, if_neg Bool.false_ne_true]

/-- Settles O49, from what a cascade does (`fireEntry_fired`). -/
theorem fireMade : Obligations.FireMade := by
  refine fun n s => ⟨fun h hnet hdue => ⟨_, fireEntry_fired s ?_ (card_stagedEntries_lt s.msch), ?_⟩, fun h => ?_⟩
  · exact ((scheduleStanding_iff s).1 h).1
  · exact execFire_due hnet hdue
  · exact execFire_waits h

/-! ## STEP_NOTICE_AT_MSCH -/

theorem mschBusy_iff (s : State) (x : StepNotice) :
    mschBusy s x = true ↔ x.tick = s.osc.tick ∧ ∃ n : EntryNo, Due s s.msch.entries[n] := by
  simp only [mschBusy, Bool.and_eq_true, decide_eq_true_eq, List.any_eq_true, fireDue_iff, Vector.mem_toList_iff]
  refine and_congr_right fun _ => ⟨fun ⟨e, he, hdue⟩ => ?_, fun ⟨n, hdue⟩ => ⟨_, Vector.getElem_mem n.isLt, hdue⟩⟩
  obtain ⟨i, hi, rfl⟩ := Vector.mem_iff_getElem.1 he
  exact ⟨⟨i, hi⟩, hdue⟩

section
variable {x : StepNotice} {rest : List StepNotice} {s : State} (hfront : s.net.stepMsch = x :: rest)
include hfront

theorem execStepNoticeAtMsch_waits (hx : x.tick = s.osc.tick) (hdue : ∃ n : EntryNo, Due s s.msch.entries[n]) :
    execStepNoticeAtMsch s = .next s := by
  simp only [execStepNoticeAtMsch, hfront, if_pos ((mschBusy_iff s x).2 ⟨hx, hdue⟩)]

theorem execStepNoticeAtMsch_taken (h : x.tick ≠ s.osc.tick ∨ ∀ n : EntryNo, ¬Due s s.msch.entries[n]) :
    execStepNoticeAtMsch s =
      .next
        { s with
          net := { s.net with stepMsch := rest }
          msch := catchUpAll (fireContext { s with net := { s.net with stepMsch := rest } }) s.msch } := by
  have hfree : ¬mschBusy s x = true := by
    rw [mschBusy_iff]
    rintro ⟨hx, n, hdue⟩
    exact h.elim (· hx) (· n hdue)
  simp only [execStepNoticeAtMsch, hfront, if_neg hfree]
  rfl

end

/-- Settles O51, from what the catch-up of the table does (`catchUp_caughtUp`). -/
theorem stepNoticeAtMschTaken : Obligations.StepNoticeAtMschTaken := by
  intro x rest s hfront s'
  refine ⟨execStepNoticeAtMsch_waits hfront, fun h => ⟨fun hs => ?_, fun hnone => ?_⟩⟩
  · exact ⟨_, catchUp_caughtUp s' _ ((scheduleStanding_iff s).1 hs).1, execStepNoticeAtMsch_taken hfront h⟩
  · have hsame := catchUpAll_of_not_due (ctx := fireContext s') fun n => (fireDue_eq_false_iff s' _).2 (hnone n)
    refine (execStepNoticeAtMsch_taken hfront h).trans ?_
    rw [hsame]

/-! ## What the commands leave -/

theorem execArm_settled {b : Byte} {s t : State} (h : ScheduleStanding s) (ht : execArm b s = .next t) (k : EntryNo) :
    t.msch.entries[k] = s.msch.entries[k] ∨ PastClock (fireContext t).clock t.msch.entries[k] := by
  unfold execArm at ht
  cases ht
  cases hreq : s.svc.request with
  | some code =>
    rw [takeRequest_busy _ hreq]
    exact .inl rfl
  | none =>
    have hact (u : State) (hu : ScheduleStanding u) : ((takeArm b u).1.msch.entries[k] = u.msch.entries[k]
        ∨ PastClock (fireContext u).clock (takeArm b u).1.msch.entries[k]) ∧ (takeArm b u).1.eclk = u.eclk
        ∧ (takeArm b u).1.net = u.net := by
      unfold takeArm
      split
      · exact ⟨.inl rfl, rfl, rfl⟩
      · split
        · exact ⟨.inl rfl, rfl, rfl⟩
        split
        · exact ⟨.inl rfl, rfl, rfl⟩
        · split
          · exact ⟨.inl rfl, rfl, rfl⟩
          next harm =>
            exact ⟨((armEntry_settled (fireContext u) ((scheduleStanding_iff u).1 hu).1 harm) k).symm.imp_left And.right, rfl, rfl⟩
    rw [takeRequest_free _ hreq]
    have hbegin : ScheduleStanding (s.beginRequest 0x21) := h
    obtain ⟨hentry, heclk, hnet⟩ := hact _ hbegin
    refine hentry.imp_right fun hpast => ?_
    have hclock (u v : State) (he : u.eclk = v.eclk) (hn : u.net = v.net) : (fireContext u).clock = (fireContext v).clock := by
      simp only [fireContext, mschClock, clockLess, clockNs, he, hn]
    rw [hclock _ (s.beginRequest 0x21) (by simpa using heclk) (by simpa using hnet)]
    exact hpast

/-- Settles O50, from the bound on a cascade's fires (`fireEntry_fuel`) and from what it leaves (`Settled`). -/
theorem nothingDueIsLeft : Obligations.NothingDueIsLeft := by
  refine ⟨fun ctx late n m extra => fireEntry_fuel extra (card_stagedEntries_lt m), ?_, ?_⟩
  · rintro i s t (⟨n, rfl⟩ | ⟨b, rfl⟩) h ht k hchanged harmed
    · change execFire n s = .next t at ht
      by_cases hfires : (∀ x ∈ s.net.stepMsch, x.tick = s.osc.tick) ∧ Due s s.msch.entries[n]
      · rw [execFire_due hfires.1 hfires.2] at ht
        cases ht
        have hsettled := fireEntry_settled (fireContext s) (late := false) (n := n) ((scheduleStanding_iff s).1 h).1
          (card_stagedEntries_lt s.msch)
        rcases hsettled k with hpast | ⟨-, hsame⟩
        · exact hpast harmed
        · exact absurd hsame hchanged
      · have hwait : (∃ x ∈ s.net.stepMsch, x.tick ≠ s.osc.tick) ∨ ¬Due s s.msch.entries[n] :=
          (not_and_or.1 hfires).imp_left fun hnet => by simpa using hnet
        rw [execFire_waits hwait] at ht
        cases ht
        exact absurd rfl hchanged
    · exact ((execArm_settled h ht k).resolve_left hchanged) harmed
  · intro x rest s t h hfront hfree ht n harmed
    have htaken : execStepNoticeAtMsch s = .next t := ht
    rw [execStepNoticeAtMsch_taken hfront hfree] at htaken
    cases htaken
    exact catchUp_pastClock { s with net := { s.net with stepMsch := rest } } _ ((scheduleStanding_iff s).1 h).1 n
      (.inl (List.mem_finRange n)) harmed

end Sys2Proof.Fires
end

section
/-! ECLK (chapter 1) and the service port: a tick's advance of the clock, what an update boundary applies, the postings, and the two
invariants `ClockBounds` and `PortStanding`. The increment of a tick is so near to 40 ns that a tick carries over at most one
second, and its clock is the exact sum, cut off at the largest value. -/

namespace Sys2Proof.ClockLaws

open Sys2Proof.Machine Sys2Proof.Frames Sys2Proof.Schedule

/-! ## The ranges, part by part -/

/-- R6, R8: the clock fields, the terms and the slots in their ranges, under these settings. -/
def EclkInRange (img : Image) (e : Eclk) : Prop :=
  e.secs ≤ Config.maxSeconds ∧ e.ns < Config.nsPerSecond ∧ e.sub < Config.unitsPerNs ∧ e.trim.natAbs ≤ Config.trimLimit
    ∧ (∀ v ∈ e.trimSlot, v.natAbs ≤ Config.trimLimit)
    ∧ e.phase.natAbs ≤ slewUnits img.slewLimit
    ∧ ∀ v ∈ e.phaseSlot, v.natAbs ≤ slewUnits img.slewLimit

/-- R8 note, R17: in CONFIG there is no phase term, and none is coming. -/
def PhaseQuiet (s : State) : Prop :=
  s.agu.sync = .config →
    s.eclk.phase = 0 ∧ s.eclk.phaseSlot = none ∧ s.agu.roundTimer = none
      ∧ (s.eclk.hold = true ∨ ∀ src v, Posting.phase v ∉ s.net.postings src)

theorem clockBounds_iff (s : State) :
    ClockBounds s ↔ EclkInRange s.svc.image s.eclk ∧ SettingsInRange s.svc.image ∧ PhaseQuiet s := by
  simp only [ClockBounds, EclkInRange, PhaseQuiet, and_assoc]
  rfl

/-! ## A tick's advance (R7, R9) -/

/-- R7: the units from the last whole second on, after the advance. -/
def unitsAfter (e : Eclk) : Int := (e.ns : Int) * 2 ^ 24 + e.sub + (671088640 + e.trim + e.phase)

theorem unitsAfter_div (e : Eclk) : unitsAfter e / 2 ^ 24 = (e.ns : Int) + advanceWhole e := by
  have hsum : unitsAfter e = ((e.sub : Int) + increment e) + e.ns * 2 ^ 24 := by
    simp only [unitsAfter, increment, Config.nominalIncrement]
    omega
  rw [hsum, Int.add_mul_ediv_right _ _ (by decide), add_comm]
  rfl

theorem unitsAfter_mod (e : Eclk) : unitsAfter e % 2 ^ 24 = ((e.sub : Int) + increment e) % Config.unitsPerNs := by
  have hsum : unitsAfter e = ((e.sub : Int) + increment e) + e.ns * 2 ^ 24 := by
    simp only [unitsAfter, increment, Config.nominalIncrement]
    omega
  rw [hsum, Int.add_mul_emod_self_right]
  rfl

section
variable {s : State} (h : ClockBounds s)
include h

/-- R7: the increment of a tick, with the widest settings. -/
theorem increment_range : 670685988 ≤ increment s.eclk ∧ increment s.eclk ≤ 671491292 := by
  obtain ⟨⟨-, -, -, htrim, -, hphase, -⟩, hset, -⟩ := (clockBounds_iff s).1 h
  have hslew : s.svc.image.slewLimit ≤ 500 := hset.2.2.2.2.2.1
  simp only [slewUnits, Config.nominalIncrement, Config.trimLimit] at htrim hphase
  simp only [increment, Config.nominalIncrement]
  omega

theorem advanceWhole_range : 39 ≤ advanceWhole s.eclk ∧ advanceWhole s.eclk ≤ 41 := by
  obtain ⟨⟨-, -, hsub, -⟩, -⟩ := (clockBounds_iff s).1 h
  have hinc := increment_range h
  simp only [advanceWhole, Config.unitsPerNs] at hsub ⊢
  omega

end

/-- R7, R9: what an advance leaves of ECLK. -/
theorem advanceClock_terms (e : Eclk) :
    advanceClock e =
      { e with
        secs := (advanceClock e).secs, ns := (advanceClock e).ns, sub := (unitsAfter e % 2 ^ 24).toNat
        phaseTotal := e.phaseTotal + e.phase } := by
  rw [unitsAfter_mod]
  dsimp only [advanceClock]
  split_ifs <;> rfl

theorem advanceClock_fields {s : State} (h : ClockBounds s) :
    (advanceClock s.eclk).secs ≤ Config.maxSeconds ∧ (advanceClock s.eclk).ns < Config.nsPerSecond
      ∧ (advanceClock s.eclk).sub < Config.unitsPerNs := by
  obtain ⟨⟨hsecs, hns, -⟩, -⟩ := (clockBounds_iff s).1 h
  have hwhole := advanceWhole_range h
  have hsub : (unitsAfter s.eclk % 2 ^ 24).toNat < Config.unitsPerNs := by
    simp only [Config.unitsPerNs]
    omega
  refine ⟨?_, ?_, by rw [advanceClock_terms]; exact hsub⟩
  all_goals
    simp only [advanceClock, Config.nsPerSecond, Config.maxSeconds] at hsecs hns ⊢
    split_ifs <;> dsimp only <;> omega

/-- R6, R7: the clock after an advance is the exact sum, cut off at the largest value. -/
theorem advanceClock_clock {s : State} (h : ClockBounds s) :
    ((advanceClock s.eclk).secs : Int) * 1000000000 + (advanceClock s.eclk).ns =
      min 281474976710655999999999 ((s.eclk.secs : Int) * 1000000000 + unitsAfter s.eclk / 2 ^ 24) := by
  obtain ⟨⟨hsecs, hns, -⟩, -⟩ := (clockBounds_iff s).1 h
  have hwhole := advanceWhole_range h
  rw [unitsAfter_div]
  simp only [advanceClock, Config.nsPerSecond, Config.maxSeconds] at hsecs hns ⊢
  split_ifs <;> dsimp only <;> omega

/-- R7: an advance within one second. -/
theorem advanceClock_within {s : State} (h : ClockBounds s) (hlt : unitsAfter s.eclk / 2 ^ 24 < 1000000000) :
    advanceClock s.eclk =
      { s.eclk with
        ns := (unitsAfter s.eclk / 2 ^ 24).toNat, sub := (unitsAfter s.eclk % 2 ^ 24).toNat
        phaseTotal := s.eclk.phaseTotal + s.eclk.phase } := by
  obtain ⟨⟨hsecs, -⟩, -⟩ := (clockBounds_iff s).1 h
  rw [unitsAfter_div] at hlt ⊢
  rw [unitsAfter_mod]
  have hcarry : ¬Config.nsPerSecond ≤ ((s.eclk.ns : Int) + advanceWhole s.eclk).toNat := by
    simp only [Config.nsPerSecond]
    omega
  simp only [advanceClock, if_neg hcarry, if_neg (Nat.not_lt.2 hsecs)]

theorem isBoundary_eq_true_iff {s : State} (h : ClockBounds s) :
    isBoundary s.eclk = true ↔ unitsAfter s.eclk / 2 ^ 24 / 1000000 ≠ (s.eclk.ns : Int) / 1000000 := by
  have hwhole := advanceWhole_range h
  rw [unitsAfter_div]
  simp only [isBoundary, Config.boundaryNs, decide_eq_true_eq]
  omega

/-! ## Update boundaries (R10, R12, R13) -/

theorem advance_between {s : State} (h : isBoundary s.eclk = false) : s.advance = s.onEclk advanceClock := by
  simp [State.advance, h]

theorem advance_at_mark {s : State} (h : isBoundary s.eclk = true) : s.advance = (s.onEclk advanceClock).updateBoundary := by
  simp [State.advance, h]

/-- R10: whether or not the tick makes an update boundary, the terms become what they were or what their slots held, or 0. -/
theorem advance_eclk (s : State) :
    s.advance.eclk = advanceClock s.eclk
      ∨ s.advance.eclk =
          { advanceClock s.eclk with
            trim := s.eclk.trimSlot.getD s.eclk.trim, trimSlot := none
            phase := s.eclk.phaseSlot.getD s.eclk.phase, phaseSlot := none }
      ∨ ∃ b c, s.advance.eclk =
          { advanceClock s.eclk with
            secs := steppedClock b c / Config.nsPerSecond, ns := steppedClock b c % Config.nsPerSecond
            trim := s.eclk.trimSlot.getD s.eclk.trim, trimSlot := none, phase := 0, phaseSlot := none, stepSlot := none } := by
  cases hb : isBoundary s.eclk with
  | false => exact .inl (by rw [advance_between hb]; rfl)
  | true =>
    rw [advance_at_mark hb]
    have hterms := advanceClock_terms s.eclk
    have hslot : (s.onEclk advanceClock).eclk.stepSlot = s.eclk.stepSlot := by rw [State.onEclk_eclk, hterms]
    cases hstep : s.eclk.stepSlot with
    | none =>
      rw [updateBoundary_none (hslot.trans hstep), State.onEclk_eclk, hterms]
      exact .inr (.inl rfl)
    | some c =>
      rw [updateBoundary_step (hslot.trans hstep), State.sendStep_eclk, State.onEclk_eclk, hterms]
      exact .inr (.inr ⟨_, c, rfl⟩)

theorem getD_natAbs_le {slot : Option Int} {x : Int} {limit : Nat} (hslot : ∀ v ∈ slot, v.natAbs ≤ limit)
    (hx : x.natAbs ≤ limit) : (slot.getD x).natAbs ≤ limit := by
  cases slot with
  | none => exact hx
  | some v => exact hslot v rfl

theorem stepped_fields (b : Nat) (c : Int) :
    steppedClock b c / Config.nsPerSecond ≤ Config.maxSeconds ∧ steppedClock b c % Config.nsPerSecond < Config.nsPerSecond := by
  have hle := steppedClock_le b c
  simp only [Config.maxClock, Config.nsPerSecond, Config.maxSeconds] at hle ⊢
  omega

theorem advance_inRange {s : State} (h : ClockBounds s) : EclkInRange s.svc.image s.advance.eclk := by
  obtain ⟨⟨-, -, -, htrim, htrimSlot, hphase, hphaseSlot⟩, -⟩ := (clockBounds_iff s).1 h
  obtain ⟨hsecs, hns, hsub⟩ := advanceClock_fields h
  have hterms := advanceClock_terms s.eclk
  rcases advance_eclk s with he | he | ⟨b, c, he⟩ <;> rw [he]
  · refine ⟨hsecs, hns, hsub, ?_⟩
    rw [hterms]
    exact ⟨htrim, htrimSlot, hphase, hphaseSlot⟩
  · exact ⟨hsecs, hns, hsub, getD_natAbs_le htrimSlot htrim, nofun, getD_natAbs_le hphaseSlot hphase, nofun⟩
  · exact ⟨(stepped_fields b c).1, (stepped_fields b c).2, hsub, getD_natAbs_le htrimSlot htrim, nofun, Nat.zero_le _, nofun⟩

theorem advance_hold (s : State) : s.advance.eclk.hold = s.eclk.hold := by
  have hterms := advanceClock_terms s.eclk
  rcases advance_eclk s with he | he | ⟨b, c, he⟩ <;> rw [he, hterms]

/-- With no phase term and none pending there is none after the advance. -/
theorem advance_phase_zero {s : State} (hphase : s.eclk.phase = 0) (hslot : s.eclk.phaseSlot = none) :
    s.advance.eclk.phase = 0 ∧ s.advance.eclk.phaseSlot = none := by
  have hterms := advanceClock_terms s.eclk
  rcases advance_eclk s with he | he | ⟨b, c, he⟩ <;> rw [he]
  · rw [hterms]
    exact ⟨hphase, hslot⟩
  · exact ⟨by simp [hphase, hslot], rfl⟩
  · exact ⟨rfl, rfl⟩

/-! ## The settings that CONFIGURE builds (R41, R122, R162) -/

/-- R162: the ranges of the scalar settings. -/
def ScalarsInRange (img : Image) : Prop :=
  1 ≤ img.ownTol ∧ img.ownTol ≤ 100 ∧ 1000 ≤ img.stepThreshold ∧ img.stepThreshold ≤ 1000000000 ∧ 10 ≤ img.slewLimit
    ∧ img.slewLimit ≤ 500 ∧ 1 ≤ img.settleMs ∧ img.settleMs ≤ 10000 ∧ 4 ≤ img.reviewS ∧ img.reviewS ≤ 64

/-- R41: the ranges of a profile window. -/
def WindowInRange (w : ProfileWindow) : Prop := w.first ≤ 31 ∧ w.last ≤ 31 ∧ AttrsInRange w.attrs

theorem settingsInRange_iff (img : Image) :
    SettingsInRange img ↔ ScalarsInRange img ∧ AttrsInRange img.dflt ∧ (∀ w : Fin 4, WindowInRange img.windows[w])
      ∧ ∀ l : CapLineNo, img.lines[l].guardNs ≤ 1000000 := by
  simp only [SettingsInRange, ScalarsInRange, WindowInRange, and_assoc]

theorem setAttr_inRange {a : ProfileAttrs} (h : AttrsInRange a) (st : Setting) (v : Nat) : AttrsInRange (setAttr st v a) := by
  have haging := clampNat_range (lo := 1) (hi := 100) (by decide) v
  have hdrift := clampNat_range (lo := 100) (hi := 100000) (by decide) v
  cases st <;> simp only [setAttr, AttrsInRange] at h ⊢ <;> omega

theorem setWindow_inRange {w : ProfileWindow} (h : WindowInRange w) (st : Setting) (v : Nat) : WindowInRange (setWindow st v w) := by
  obtain ⟨hfirst, hlast, hattrs⟩ := h
  cases st
  case first => exact ⟨Nat.min_le_left _ _, hlast, hattrs⟩
  case last => exact ⟨hfirst, Nat.min_le_left _ _, hattrs⟩
  all_goals exact ⟨hfirst, hlast, setAttr_inRange hattrs _ _⟩

theorem setLine_inRange {l : LineSetup} (h : l.guardNs ≤ 1000000) (st : Setting) (v : Nat) : (setLine st v l).guardNs ≤ 1000000 := by
  cases st
  case guard => exact Nat.min_le_left _ _
  all_goals exact h

theorem settingsInRange_default : SettingsInRange Image.default := by
  refine (settingsInRange_iff _).2 ⟨by simp [ScalarsInRange, Image.default],
    by simp [AttrsInRange, Image.default, ProfileAttrs.default], fun w => ?_, fun l => ?_⟩
  · simp [Image.default, ProfileWindow.default, WindowInRange, AttrsInRange, ProfileAttrs.default]
  · simp [Image.default, LineSetup.default]

theorem applyItem_inRange {img : Image} (h : SettingsInRange img) (i : CfgItem) : SettingsInRange (applyItem img i) := by
  have hall := h
  rw [settingsInRange_iff] at h
  obtain ⟨hscalars, hdflt, hwindows, hlines⟩ := h
  have hline (st : Setting) : SettingsInRange { img with
      lines := mapNumbered (fun l x => if l.val = i.index.toNat then setLine st i.value.toNat x else x) img.lines } := by
    refine (settingsInRange_iff _).2 ⟨hscalars, hdflt, hwindows, fun l => ?_⟩
    simp only [Fin.getElem_fin, mapNumbered_getElem]
    split
    · exact setLine_inRange (hlines l) _ _
    · exact hlines l
  have hscalar {img' : Image} (hs : ScalarsInRange img') (hd : img'.dflt = img.dflt) (hw : img'.windows = img.windows)
      (hl : img'.lines = img.lines) : SettingsInRange img' :=
    (settingsInRange_iff _).2 ⟨hs, hd ▸ hdflt, hw ▸ hwindows, hl ▸ hlines⟩
  have htol := clampNat_range (lo := 1) (hi := 100) (by decide) i.value.toNat
  have hthreshold := clampNat_range (lo := 1000) (hi := 1000000000) (by decide) i.value.toNat
  have hslew := clampNat_range (lo := 10) (hi := 500) (by decide) i.value.toNat
  have hsettle := clampNat_range (lo := 1) (hi := 10000) (by decide) i.value.toNat
  have hreview := clampNat_range (lo := 4) (hi := 64) (by decide) i.value.toNat
  unfold applyItem
  dsimp only
  split
  · exact hall
  case h_8 | h_9 | h_10 => exact hline _
  case h_11 =>
    split
    · exact (settingsInRange_iff _).2 ⟨hscalars, setAttr_inRange hdflt _ _, hwindows, hlines⟩
    · refine (settingsInRange_iff _).2 ⟨hscalars, hdflt, fun w => ?_, hlines⟩
      simp only [Fin.getElem_fin, mapNumbered_getElem]
      split
      · exact setWindow_inRange (hwindows w) _ _
      · exact hwindows w
  all_goals
    refine hscalar ?_ rfl rfl rfl
    simp only [ScalarsInRange] at hscalars ⊢
    omega

theorem buildImage_inRange (items : List CfgItem) : SettingsInRange (buildImage items) :=
  List.foldlRecOn items applyItem settingsInRange_default fun _ h i _ => applyItem_inRange h i

/-! ## Every command keeps the clock in its bounds -/

theorem clockBounds_reads : Reads [.clock, .terms, .settings, .agu, .postings] ClockBounds := by
  intro s t hsame h
  obtain ⟨hsecs, hns, hsub, htrim, -⟩ : Block.Same s t .clock := hsame _ (by simp)
  obtain ⟨hphase, hphaseSlot, htrimSlot, -, hhold⟩ : Block.Same s t .terms := hsame _ (by simp)
  obtain ⟨-, -, himage⟩ : Block.Same s t .settings := hsame _ (by simp)
  obtain ⟨hpagu, hpdmon, hpsvc⟩ : Block.Same s t .postings := hsame _ (by simp)
  have hagu : t.agu = s.agu := hsame .agu (by simp)
  have hpost (src : Poster) : t.net.postings src = s.net.postings src := by
    cases src <;> simp [InFlight.postings, hpagu, hpdmon, hpsvc]
  simpa only [ClockBounds, hsecs, hns, hsub, htrim, hphase, hphaseSlot, htrimSlot, hhold, himage, hagu, hpost] using h

/-- A change that leaves ECLK and the settings alone keeps the bounds if CONFIG stays quiet. -/
theorem clockBounds_of_quiet {s t : State} (h : ClockBounds s) (heclk : t.eclk = s.eclk)
    (himage : t.svc.image = s.svc.image) (hquiet : PhaseQuiet s → PhaseQuiet t) : ClockBounds t := by
  obtain ⟨hrange, hset, hq⟩ := (clockBounds_iff s).1 h
  exact (clockBounds_iff t).2 ⟨by rwa [heclk, himage], by rwa [himage], hquiet hq⟩

/-- Outside CONFIG there is nothing to keep quiet. -/
theorem phaseQuiet_of_ne {s : State} (h : s.agu.sync ≠ .config) : PhaseQuiet s := fun hc => absurd hc h

/-- A posting that is no phase value disturbs nothing. -/
theorem phaseQuiet_post {s : State} (h : PhaseQuiet s) (src : Poster) {p : Posting} (hp : ∀ v, p ≠ .phase v) :
    PhaseQuiet (s.post src p) := by
  intro hc
  obtain ⟨hphase, hslot, htimer, hnone⟩ := h hc
  refine ⟨hphase, hslot, htimer, hnone.imp_right fun hnone other v hmem => ?_⟩
  have hmem' : Posting.phase v ∈ s.net.postings other ∨ Posting.phase v = p := by
    cases src <;> cases other <;> simp_all [InFlight.postings]
  exact hmem'.elim (hnone other v) fun he => hp v he.symm

theorem countTick_clockBounds {s : State} (h : ClockBounds s) : ClockBounds s.countTick :=
  clockBounds_reads.keeps (changesOnly_countTick s) (by simp) h

theorem tick_keeps (caps : BitVec 8) (ref : Bool) {s : State} (h : ClockBounds s) :
    ClockBounds (s.countTick.advance.sampleInputs caps ref) := by
  refine clockBounds_reads.keeps (changesOnly_sampleInputs caps ref _) (by simp) ?_
  have hcount := countTick_clockBounds h
  generalize s.countTick = s at hcount
  obtain ⟨-, hset, hquiet⟩ := (clockBounds_iff s).1 hcount
  have hframe := changesOnly_advance s
  obtain ⟨-, -, himage⟩ : Block.Same s s.advance .settings := hframe _ (by simp)
  obtain ⟨hpagu, hpdmon, hpsvc⟩ : Block.Same s s.advance .postings := hframe _ (by simp)
  have hagu : s.advance.agu = s.agu := hframe .agu (by simp)
  refine (clockBounds_iff _).2 ⟨himage ▸ advance_inRange hcount, himage ▸ hset, fun hc => ?_⟩
  rw [hagu] at hc
  obtain ⟨hphase, hslot, htimer, hnone⟩ := hquiet hc
  obtain ⟨hphase', hslot'⟩ := advance_phase_zero hphase hslot
  refine ⟨hphase', hslot', hagu ▸ htimer, ?_⟩
  rw [advance_hold]
  refine hnone.imp_right fun hnone src v => ?_
  have hsrc := hnone src v
  cases src <;> simpa [InFlight.postings, hpagu, hpdmon, hpsvc] using hsrc

theorem posting_keeps (src : Poster) {s : State} (h : ClockBounds s) : Leads ClockBounds (execPosting src s) := by
  unfold execPosting
  split
  · exact (leads_next _ _).2 h
  next p rest hfront =>
    refine (leads_next _ _).2 ?_
    have hmem (other : Poster) (v : Int) (hv : Posting.phase v ∈ (s.net.setPostings src rest).postings other) :
        Posting.phase v ∈ s.net.postings other := by
      cases src <;> cases other <;> simp_all [InFlight.postings, InFlight.setPostings]
    have hdequeued : ClockBounds (s.onNet (InFlight.setPostings src rest)) := by
      refine clockBounds_of_quiet h rfl rfl fun hq hc => ?_
      obtain ⟨hphase, hslot, htimer, hnone⟩ := hq hc
      exact ⟨hphase, hslot, htimer, hnone.imp_right fun hnone other v hv => hnone other v (hmem other v hv)⟩
    obtain ⟨⟨hsecs, hns, hsub, htrim, htrimSlot, hphase, hphaseSlot⟩, hset, hquiet⟩ := (clockBounds_iff _).1 hdequeued
    cases hhold : s.eclk.hold with
    | true =>
      have hignored := takePosting_hold (s := s.onNet (InFlight.setPostings src rest)) hhold
      cases p with
      | phase v => rw [(hignored v).1]; exact hdequeued
      | trim v => rw [(hignored v).2]; exact hdequeued
      | step c =>
        rw [takePosting_step]
        exact (clockBounds_iff _).2 ⟨⟨hsecs, hns, hsub, htrim, htrimSlot, hphase, hphaseSlot⟩, hset, hquiet⟩
    | false =>
      cases p with
      | phase v =>
        rw [takePosting_phase (s := s.onNet (InFlight.setPostings src rest)) hhold]
        refine (clockBounds_iff _).2 ⟨⟨hsecs, hns, hsub, htrim, htrimSlot, hphase, fun w hw => ?_⟩, hset, fun hc => ?_⟩
        · cases hw
          exact satAbs_natAbs_le _ _
        · obtain ⟨-, -, -, hnone⟩ := ((clockBounds_iff s).1 h).2.2 hc
          rcases hnone with hheld | hnone
          · rw [hhold] at hheld
            cases hheld
          · exact absurd (hfront ▸ List.mem_cons_self) (hnone src v)
      | trim v =>
        rw [takePosting_trim (s := s.onNet (InFlight.setPostings src rest)) hhold]
        refine (clockBounds_iff _).2 ⟨⟨hsecs, hns, hsub, htrim, fun w hw => ?_, hphase, hphaseSlot⟩, hset, hquiet⟩
        cases hw
        exact satAbs_natAbs_le _ _
      | step c =>
        rw [takePosting_step]
        exact (clockBounds_iff _).2 ⟨⟨hsecs, hns, hsub, htrim, htrimSlot, hphase, hphaseSlot⟩, hset, hquiet⟩

theorem clockBounds_post {s : State} (h : ClockBounds s) (src : Poster) {p : Posting} (hp : ∀ v, p ≠ .phase v) :
    ClockBounds (s.post src p) :=
  clockBounds_of_quiet h rfl rfl fun hq => phaseQuiet_post hq src hp

theorem review_keeps {s : State} (h : ClockBounds s) : Leads ClockBounds (execReview s) := by
  have hdmon {t u : State} (htu : ChangesOnly [.dmon] t u) (ht : ClockBounds t) : ClockBounds u :=
    clockBounds_reads.keeps htu (by simp) ht
  unfold execReview
  split
  · split
    · exact (leads_next _ _).2 (hdmon (changesOnly_onDmon _ s) h)
    · have hjudged := hdmon (changesOnly_judgeAll (referenceRate (reviewRates s)) s) h
      rw [leads_next]
      dsimp only [conclusiveReview]
      generalize judgeAll (referenceRate (reviewRates s)) s = t at hjudged ⊢
      exact clockBounds_post (hdmon (changesOnly_onDmon _ t) hjudged) .dmon nofun
  · exact (leads_next _ _).2 h

theorem roundClose_keeps {s : State} (h : ClockBounds s) : Leads ClockBounds (execRoundClose s) := by
  unfold execRoundClose
  split
  · exact (leads_next _ _).2
      (clockBounds_of_quiet h rfl rfl fun _ => phaseQuiet_of_ne (syncAfter_ne_config _ _))
  · exact (leads_next _ _).2 h

theorem endOfListen_keeps {s : State} (h : ClockBounds s) : Leads ClockBounds (execEndOfListen s) := by
  unfold execEndOfListen
  split
  · exact (leads_next _ _).2 (clockBounds_of_quiet h rfl rfl fun _ => phaseQuiet_of_ne nofun)
  · exact (leads_next _ _).2 h

/-- What AGU changes outside its sync state and round timer. -/
theorem aguNotice_keeps {s t : State} (h : ClockBounds s) (heclk : t.eclk = s.eclk) (hsvc : t.svc = s.svc)
    (hsync : t.agu.sync = s.agu.sync) (htimer : t.agu.roundTimer = s.agu.roundTimer)
    (hpost : Block.Same s t .postings) : ClockBounds t := by
  obtain ⟨hpagu, hpdmon, hpsvc⟩ := hpost
  refine clockBounds_of_quiet h heclk (by rw [hsvc]) fun hq hc => ?_
  obtain ⟨hphase, hslot, hnotimer, hnone⟩ := hq (hsync ▸ hc)
  refine ⟨heclk ▸ hphase, heclk ▸ hslot, htimer ▸ hnotimer, heclk ▸ hnone.imp_right fun hnone src v => ?_⟩
  have hsrc := hnone src v
  cases src <;> simpa [InFlight.postings, hpagu, hpdmon, hpsvc] using hsrc

theorem takeConfigure_keeps (items : List CfgItem) {s : State} (h : ClockBounds s) :
    ClockBounds (takeConfigure items s).1 := by
  obtain ⟨⟨hsecs, hns, hsub, htrim, htrimSlot, -, -⟩, -, hquiet⟩ := (clockBounds_iff s).1 h
  unfold takeConfigure
  split
  · exact h
  next hc =>
    obtain ⟨hphase, hslot, -⟩ := hquiet (not_not.1 hc)
    split
    · exact h
    split
    · exact h
    · refine (clockBounds_iff _).2 ⟨⟨hsecs, hns, hsub, htrim, htrimSlot, ?_, ?_⟩, buildImage_inRange items, hquiet⟩
      · simp [hphase]
      · simp [hslot]

theorem takeStart_keeps {s : State} (h : ClockBounds s) : ClockBounds (takeStart s).1 := by
  obtain ⟨hrange, hset, -⟩ := (clockBounds_iff s).1 h
  unfold takeStart
  split
  · exact (clockBounds_iff _).2 ⟨hrange, hset, phaseQuiet_of_ne nofun⟩
  · exact h

theorem takeRestart_keeps (straps : Straps) {s : State} (h : ClockBounds s) : ClockBounds (takeRestart straps s).1 := by
  obtain ⟨⟨hsecs, hns, hsub, htrim, -⟩, hset, -⟩ := (clockBounds_iff s).1 h
  exact (clockBounds_iff _).2
    ⟨⟨hsecs, hns, hsub, htrim, nofun, Nat.zero_le _, nofun⟩, hset, fun _ => ⟨rfl, rfl, rfl, .inl rfl⟩⟩

theorem takeSettime_keeps (sec : BitVec 48) (ns u : BitVec 32) {s : State} (h : ClockBounds s) :
    ClockBounds (takeSettime sec ns u s).1 := by
  unfold takeSettime
  split
  · exact clockBounds_post (clockBounds_of_quiet h rfl rfl id) .svc nofun
  · exact h

theorem clockBounds_reset (straps : Straps) {t : State} (heclk : t.eclk = Eclk.reset) (hagu : t.agu = Agu.reset)
    (hsvc : t.svc = Svc.reset straps) (hpost : Block.Same (State.resetWith straps) t .postings) : ClockBounds t := by
  obtain ⟨hpagu, hpdmon, hpsvc⟩ := hpost
  refine (clockBounds_iff _).2 ⟨?_, ?_, fun _ => ?_⟩
  · simp [heclk, EclkInRange, Eclk.reset]
  · rw [hsvc]
    exact settingsInRange_default
  · rw [heclk, hagu]
    refine ⟨rfl, rfl, rfl, .inr fun src v => ?_⟩
    cases src <;> simp [InFlight.postings, hpagu, hpdmon, hpsvc, State.resetWith, InFlight.empty]

theorem exec_clockBounds (c : Instr) (s : State) (h : ClockBounds s) : Leads ClockBounds (exec c s) := by
  by_cases hc : ∀ b ∈ [Block.clock, .terms, .settings, .agu, .postings], b ∉ writes c
  · exact clockBounds_reads.exec_keeps hc h
  have hrequest {code : Byte} {act : State → State × Status × List Byte} (hact : ∀ t, ClockBounds t → ClockBounds (act t).1) :
      Leads ClockBounds (.next (takeRequest code act s)) :=
    (leads_next _ _).2 (clockBounds_reads.takeRequest_keeps (by simp) hact h)
  cases c
  case fullReset straps =>
    exact (leads_next _ _).2 (clockBounds_reset straps rfl rfl rfl (Block.Same.refl (State.resetWith straps) .postings))
  case tick caps ref => exact (leads_next _ _).2 (tick_keeps caps ref h)
  case posting src => exact posting_keeps src h
  case review => exact review_keeps h
  case roundClose => exact roundClose_keeps h
  case endOfListen => exact endOfListen_keeps h
  case fallbackNoticeAtAgu =>
    simp only [exec, execFallbackNoticeAtAgu]
    split
    · exact (leads_next _ _).2 (aguNotice_keeps h rfl rfl rfl rfl ⟨rfl, rfl, rfl⟩)
    · exact (leads_next _ _).2 h
  case completionNotice =>
    simp only [exec, execCompletionNotice]
    split
    · exact (leads_next _ _).2 h
    · exact (leads_next _ _).2 (aguNotice_keeps h rfl rfl rfl rfl ⟨rfl, rfl, rfl⟩)
  case stepNoticeAtAgu =>
    simp only [exec, execStepNoticeAtAgu]
    split
    · exact (leads_next _ _).2 h
    · exact (leads_next _ _).2 (aguNotice_keeps h rfl rfl rfl rfl ⟨rfl, rfl, rfl⟩)
  case configure items => exact hrequest fun t => takeConfigure_keeps items
  case start => exact hrequest fun t => takeStart_keeps
  case restart straps => exact hrequest fun t => takeRestart_keeps straps
  case settime sec ns u => exact hrequest fun t => takeSettime_keeps sec ns u
  all_goals exact absurd (by simp [writes]) hc

/-! ## Every command keeps the port's standing (R167 to R170) -/

/-- Every request is a `takeRequest` that leaves the port to SVC and answers another status than NOT_READY. -/
theorem request_eq (c : Instr) (hc : (encodeRequest c).isSome) :
    ∃ code act, (∀ s, exec c s = .next (takeRequest code act s))
      ∧ ∀ s, Block.Same s (act s).1 .port ∧ (act s).2.1 ≠ .notReady := by
  cases c
  case configure | start | restart | settime | anchor | date | peek | take | label | stage | arm | stop | entry | status | peer
      | warnings | attention =>
    refine ⟨_, _, fun s => rfl, fun s => ?_⟩
    simp only [takeConfigure, takeStart, takeRestart, takeSettime, takeAnchor, takeDate, takePeek, takeTake, takeLabel, takeStage,
      takeArm, takeStop, takeEntry, takeStatus, takePeer, takeWarnings, takeAttention, unchanged]
    repeat' split
    all_goals simp [Block.Same, restartAll, restartSvc, startAll, setMask, State.removeHead]
  all_goals cases hc

theorem portStanding_reads : Reads [.port] PortStanding := by
  intro s t hsame h
  obtain ⟨hreq, hbuf, hresp⟩ : Block.Same s t .port := hsame _ (by simp)
  simpa only [PortStanding, hreq, hbuf, hresp] using h

theorem overrunMark_portStanding {s : State} (h : PortStanding s) : PortStanding s.overrunMark := h

/-- R168: a request taken, with its response made. -/
theorem takeRequest_portStanding {code : Byte} {act : State → State × Status × List Byte}
    (hact : ∀ s, Block.Same s (act s).1 .port ∧ (act s).2.1 ≠ .notReady) {s : State} (h : PortStanding s) :
    PortStanding (takeRequest code act s) := by
  cases hreq : s.svc.request with
  | some other =>
    rw [takeRequest_busy act hreq]
    exact overrunMark_portStanding h
  | none =>
    rw [takeRequest_free act hreq]
    obtain ⟨⟨hrequest, hbuffer, -⟩, hstatus⟩ := hact (s.beginRequest code)
    simp only [PortStanding, State.answer_svc, hrequest, hbuffer, State.beginRequest_svc]
    simpa [tickBytes] using hstatus

theorem exec_portStanding (c : Instr) (s : State) (h : PortStanding s) : Leads PortStanding (exec c s) := by
  by_cases hc : ∀ b ∈ [Block.port], b ∉ writes c
  · exact portStanding_reads.exec_keeps hc h
  by_cases hr : (encodeRequest c).isSome
  · obtain ⟨code, act, heq, hact⟩ := request_eq c hr
    exact heq s ▸ (leads_next _ _).2 (takeRequest_portStanding hact h)
  cases c
  case fullReset straps =>
    refine (leads_next _ _).2 ?_
    simp [PortStanding, State.resetWith, Svc.reset]
  case overrun =>
    simp only [exec, execOverrun]
    split
    · exact (leads_next _ _).2 (overrunMark_portStanding h)
    · exact (leads_next _ _).2 h
  case unknownRequest code =>
    simp only [exec, execUnknownRequest]
    split
    · exact (leads_next _ _).2 h
    · exact (leads_next _ _).2 (takeRequest_portStanding (fun s => ⟨Block.Same.refl s .port, by simp [unchanged]⟩) h)
  case fullResponsePlaced =>
    simp only [exec, execFullResponsePlaced]
    split
    next r _ hresp =>
      have hstatus := (h.2.2.2 r hresp).1
      exact (leads_next _ _).2 (by simpa [PortStanding, placeResponse] using hstatus)
    · exact (leads_next _ _).2 h
  all_goals first
    | exact absurd rfl hr
    | exact absurd (by simp [writes]) hc

/-- Settles O5. -/
theorem clockBoundsKept : Obligations.ClockBoundsKept :=
  ⟨step_keeps (fun _ _ h => h) exec_clockBounds, step_keeps (fun _ _ h => h) exec_portStanding⟩

end Sys2Proof.ClockLaws
end

section
/-! The clock as its statements give it: a tick between marks and at one, postings, the fallback and the own uncertainty. -/

namespace Sys2Proof.ClockMoves

open Sys2Proof.Machine Sys2Proof.Frames Sys2Proof.ClockLaws

/-! ## The inputs sampled (R109, R121) -/

theorem edgeFound_eq (prev : Option Bool) (now : Bool) :
    edgeFound prev now = if prev = some (!now) then some (if now then .rising else .falling) else none := by
  rcases prev with _ | _ | _ <;> cases now <;> rfl

theorem edgeFound_rising_iff (prev : Option Bool) (now : Bool) :
    edgeFound prev now = some .rising ↔ prev = some false ∧ now = true := by
  rcases prev with _ | _ | _ <;> cases now <;> simp [edgeFound]

theorem sampleReference_eq (ref : Bool) (tick : Tick) (clock : Nat) (a : Anch) :
    sampleReference ref tick clock a =
      { a with
        prevRef := some ref
        pulses := a.pulses ++ if a.prevRef = some false ∧ ref = true then [{ tick := tick, stamp := clock }] else [] } := by
  have hpulse := edgeFound_rising_iff a.prevRef ref
  by_cases hrise : a.prevRef = some false ∧ ref = true
  · rw [sampleReference, if_pos (hpulse.2 hrise), if_pos hrise]
  · rw [sampleReference, if_neg (mt hpulse.1 hrise), if_neg hrise, List.append_nil]

/-- The samples of a tick, taken once the clock has advanced. -/
theorem sampleInputs_sampled {s u : State} (caps : BitVec 8) (ref : Bool) (hcapu : u.capu = s.capu) (hanch : u.anch = s.anch) :
    Sampled caps ref s (u.sampleInputs caps ref) := by
  refine ⟨?_, fun l => ?_, ?_⟩
  · rw [← hcapu]; rfl
  · rw [← hcapu, ← edgeFound_eq]
    simp [State.sampleInputs, sampleCaptureLines]
  · rw [← hanch]
    exact sampleReference_eq ref u.osc.tick (clockNs u) u.anch

/-- A tick, as the sample of what the advance leaves. -/
theorem tick_eq (caps : BitVec 8) (ref : Bool) {s : State} (h : s.osc.tick + 1 < 2 ^ 64) :
    exec (.tick caps ref) s =
      .next ((({ s with osc := { s.osc with tick := s.osc.tick + 1 } } : State).advance).sampleInputs caps ref) := by
  have hcount : s.countTick = { s with osc := { s.osc with tick := s.osc.tick + 1 } } := by
    rw [State.countTick, if_pos (by simpa [Config.tickRange] using h)]
  rw [← hcount]
  rfl

theorem increment_bounds {s : State} (h : ClockBounds s) :
    670685988 ≤ 671088640 + s.eclk.trim + s.eclk.phase ∧ 671088640 + s.eclk.trim + s.eclk.phase ≤ 671491292 := by
  have hinc := increment_range h
  simp only [increment, Config.nominalIncrement] at hinc
  omega

/-- Settles O16: short of a mark the advance touches ns, sub and the phase total alone. -/
theorem tickBetweenMarks : Obligations.TickBetweenMarks := by
  intro caps ref s h htick inc units hbetween
  refine ⟨(increment_bounds h).1, (increment_bounds h).2, _, tick_eq caps ref htick, ?_, ?_⟩
  · have hns := ((clockBounds_iff s).1 h).1.2.1
    have hwithin : unitsAfter s.eclk / 2 ^ 24 < 1000000000 := by
      have hmark : unitsAfter s.eclk / 2 ^ 24 / 1000000 = (s.eclk.ns : Int) / 1000000 := hbetween
      simp only [Config.nsPerSecond] at hns
      omega
    have hnot : isBoundary s.eclk = false := by
      rw [Bool.eq_false_iff, ne_eq, isBoundary_eq_true_iff h, not_not]
      exact hbetween
    have hnot' : isBoundary ({ s with osc := { s.osc with tick := s.osc.tick + 1 } } : State).eclk = false := hnot
    rw [advance_between hnot', State.onEclk, advanceClock_within h hwithin]
    rfl
  · have hadvance := changesOnly_advance { s with osc := { s.osc with tick := s.osc.tick + 1 } }
    exact sampleInputs_sampled caps ref (hadvance .capu (by simp)) (hadvance .anch (by simp))

/-! ## A mark reached (R12 to R14) -/

theorem appliedStep_eq (b : Nat) (c : Int) :
    appliedStep b c = max 0 (min 281474976710655999999999 ((b : Int) + c)) - b := by
  rw [appliedStep, steppedClock, clampInt_eq (by decide)]
  simp only [Config.maxClock]
  omega

theorem clockNs_split (n : Nat) :
    ((n / Config.nsPerSecond : Nat) : Int) * 1000000000 + ((n % Config.nsPerSecond : Nat) : Int) = n := by
  simp only [Config.nsPerSecond]
  omega

/-- R12: what a mark without a pending step makes of the ECLK that `advanceClock` leaves. -/
theorem atMark_none {s : State} (hb : isBoundary s.eclk = true) (hstep : s.eclk.stepSlot = none) :
    s.advance =
      { s with
        eclk :=
          { secs := (advanceClock s.eclk).secs, ns := (advanceClock s.eclk).ns, sub := (unitsAfter s.eclk % 2 ^ 24).toNat
            trim := s.eclk.trimSlot.getD s.eclk.trim, phase := s.eclk.phaseSlot.getD s.eclk.phase
            phaseTotal := s.eclk.phaseTotal + s.eclk.phase, phaseSlot := none, trimSlot := none, stepSlot := none
            hold := s.eclk.hold } } := by
  have hterms := advanceClock_terms s.eclk
  have hslot : (s.onEclk advanceClock).eclk.stepSlot = none := by rw [State.onEclk_eclk, hterms, hstep]
  rw [advance_at_mark hb, updateBoundary_none hslot, State.onEclk_eclk, hterms, hstep]
  rfl

/-- R13, R14: what a mark with a pending step C makes of it; `b` is the boundary value. -/
theorem atMark_step {s : State} {c : Int} (hb : isBoundary s.eclk = true) (hstep : s.eclk.stepSlot = some c) :
    s.advance =
      (let b := clockNs (s.onEclk advanceClock)
       ({ s with
          eclk :=
            { secs := steppedClock b c / Config.nsPerSecond, ns := steppedClock b c % Config.nsPerSecond
              sub := (unitsAfter s.eclk % 2 ^ 24).toNat, trim := s.eclk.trimSlot.getD s.eclk.trim, phase := 0
              phaseTotal := s.eclk.phaseTotal + s.eclk.phase, phaseSlot := none, trimSlot := none, stepSlot := none
              hold := s.eclk.hold } } : State).sendStep (appliedStep b c)) := by
  have hterms := advanceClock_terms s.eclk
  have hslot : (s.onEclk advanceClock).eclk.stepSlot = some c := by rw [State.onEclk_eclk, hterms, hstep]
  rw [advance_at_mark hb, updateBoundary_step hslot]
  generalize clockNs (s.onEclk advanceClock) = b
  rw [State.onEclk_eclk, hterms]
  rfl

/-- Settles O17: with and without a pending step. -/
theorem tickAtAMark : Obligations.TickAtAMark := by
  intro caps ref s h htick units b hmark
  have hb : isBoundary s.eclk = true := (isBoundary_eq_true_iff h).2 hmark
  have hclock : ((clockNs (s.onEclk advanceClock) : Nat) : Int) = b := by
    have hexact := advanceClock_clock h
    simp only [clockNs, State.onEclk_eclk, Config.nsPerSecond]
    push_cast
    exact hexact
  have hfields := advanceClock_fields h
  have hticked : isBoundary ({ s with osc := { s.osc with tick := s.osc.tick + 1 } } : State).eclk = true := hb
  rw [tick_eq caps ref htick]
  refine ⟨_, rfl, ?_⟩
  cases hstep : s.eclk.stepSlot with
  | none =>
    rw [atMark_none hticked hstep]
    refine ⟨rfl, sampleInputs_sampled caps ref rfl rfl, rfl, hfields.2.1, fun _ => ⟨?_, rfl, rfl⟩, nofun⟩
    exact advanceClock_clock h
  | some c =>
    rw [atMark_step hticked hstep]
    refine ⟨rfl, sampleInputs_sampled caps ref rfl rfl, rfl, Nat.mod_lt _ (by decide), nofun, fun c' hc' => ?_⟩
    cases hc'
    have happlied : appliedStep (clockNs (s.onEclk advanceClock)) c = max 0 (min 281474976710655999999999 (b + c)) - b := by
      rw [appliedStep_eq, hclock]
    refine ⟨?_, rfl, ?_⟩
    · rw [← happlied, ← hclock]
      have hsplit := clockNs_split (steppedClock (clockNs (s.onEclk advanceClock)) c)
      have hsum : b + appliedStep (clockNs (s.onEclk advanceClock)) c = steppedClock (clockNs (s.onEclk advanceClock)) c := by
        rw [appliedStep, hclock]
        omega
      rw [hclock, hsum]
      exact hsplit
    · rw [← happlied]
      rfl

/-! ## Postings (R8, R11, R17) -/

theorem exec_posting {s : State} {src : Poster} {p : Posting} {rest : List Posting} (h : s.net.postings src = p :: rest) :
    exec (.posting src) s = .next ((s.onNet (InFlight.setPostings src rest)).takePosting p) := by
  simp only [exec, execPosting, h]

theorem setPostings_postings (src other : Poster) (rest : List Posting) (n : InFlight) :
    (n.setPostings src rest).postings other = if other = src then rest else n.postings other := by
  cases src <;> cases other <;> rfl

/-- Settles O18. -/
theorem postingTaken : Obligations.PostingTaken := by
  intro src p rest s hfront net' units
  rw [exec_posting hfront]
  refine ⟨?_, fun other hother => ?_, fun v hp hhold => ?_, fun v hp hhold => ?_, fun v hp hhold => ?_, fun c hp => ?_⟩
  · simp [net', setPostings_postings]
  · simp [net', setPostings_postings, hother]
  · rw [hp, takePosting_phase (s := s.onNet (InFlight.setPostings src rest)) hhold, satAbs_eq (Int.natCast_nonneg _)]
    rfl
  · rw [hp, takePosting_trim (s := s.onNet (InFlight.setPostings src rest)) hhold, satAbs_eq (by decide)]
    rfl
  · obtain ⟨hphase, htrim⟩ := takePosting_hold (s := s.onNet (InFlight.setPostings src rest)) hhold v
    rcases hp with hp | hp <;> rw [hp]
    · rw [hphase]; rfl
    · rw [htrim]; rfl
  · rw [hp, takePosting_step]
    rfl

/-! ## The fallback and the own uncertainty (R2, R3, R66, R67) -/

theorem ownU_unset {s : State} (h : s.agu.unset = true) : ownU s = 4294967295 := by
  simp [ownU, h, Config.unbounded]

theorem ownU_set {s : State} (h : s.agu.unset = false) :
    ownU s =
      min Config.unbounded
        (s.agu.base + uncertaintyGrowth (s.osc.tick - s.agu.baseTick) (effectiveTolerance s.agu.onBackup s)) := by
  simp [ownU, h, satUnc]

theorem uncertaintyGrowth_mono {a b tol : Nat} (h : a ≤ b) : uncertaintyGrowth a tol ≤ uncertaintyGrowth b tol := by
  unfold uncertaintyGrowth
  rw [ceilDiv_le_iff (by decide)]
  exact (Nat.mul_le_mul_right _ (Nat.mul_le_mul_right _ h)).trans ((ceilDiv_le_iff (by decide)).1 (le_refl _))

/-- R66, by the exact growth: U is at most `u` just when base and growth, in millionths, are. -/
theorem ownU_le_iff {s : State} (h : s.agu.unset = false) {u : Nat} (hu : u < 4294967295) :
    ownU s ≤ u ↔
      s.agu.base ≤ u
        ∧ (s.osc.tick - s.agu.baseTick) * 40 * effectiveTolerance s.agu.onBackup s ≤ (u - s.agu.base) * 1000000 := by
  have hgrowth := @ceilDiv_le_iff ((s.osc.tick - s.agu.baseTick) * 40 * effectiveTolerance s.agu.onBackup s) 1000000
    (u - s.agu.base) (by decide)
  rw [ownU_set h, ← hgrowth, uncertaintyGrowth]
  simp only [Config.unbounded, Config.nsPerTick]
  omega

/-- R66: U grows with the tick counter. -/
theorem ownU_mono (s : State) {later : Tick} (h : s.osc.tick ≤ later) :
    ownU s ≤ ownU { s with osc := { s.osc with tick := later } } := by
  cases hunset : s.agu.unset with
  | true =>
    rw [ownU_unset hunset, ownU_unset (s := { s with osc := { s.osc with tick := later } }) hunset]
  | false =>
    rw [ownU_set hunset, ownU_set (s := { s with osc := { s.osc with tick := later } }) hunset]
    have hgrowth := uncertaintyGrowth_mono (tol := effectiveTolerance s.agu.onBackup s) (Nat.sub_le_sub_right h s.agu.baseTick)
    exact min_le_min_left _ (Nat.add_le_add_left hgrowth _)

/-- R67: taken as the base at its tick, U stays what it is. -/
theorem ownU_rebased {s t : State} (hunset : t.agu.unset = s.agu.unset) (hbase : t.agu.base = ownU s)
    (htick : t.agu.baseTick = t.osc.tick) : ownU t = ownU s := by
  cases h : s.agu.unset with
  | true => rw [ownU_unset h, ownU_unset (hunset.trans h)]
  | false =>
    have hle := ownU_le s
    rw [ownU_set (hunset.trans h), hbase, htick, Nat.sub_self, uncertaintyGrowth]
    simpa [ceilDiv] using hle

theorem exec_primaryLost {s : State} (h : s.osc.selection = .primary) :
    exec .primaryLost s =
      .next
        { s with
          osc := { s.osc with selection := .backup }
          net :=
          { s.net with
            fallbackAgu := true
            fallbackAnch := true
            fallbackDmon := s.net.fallbackDmon ++ [s.eclk.secs * 1000000000 + s.eclk.ns] } } := by
  simp only [exec, execPrimaryLost, h]
  rfl

/-- Settles O19. -/
theorem fallbackAndUncertainty : Obligations.FallbackAndUncertainty := by
  intro s tolerance
  refine ⟨exec_primaryLost, fun h => ?_, fun h => ?_, fun h => ?_, ownU_unset, ownU_le s,
    fun hset _ u hu => ownU_le_iff hset hu, fun later => ownU_mono s⟩
  · simp only [exec, execPrimaryLost, h]
  · simp only [exec, execFallbackNoticeAtAgu, h, if_true]
    exact ⟨_, rfl, rfl, ownU_rebased rfl rfl rfl⟩
  · simp only [exec, execFallbackNoticeAtAnch, h, if_true]
    rfl

end Sys2Proof.ClockMoves
end

section
/-! The transmitter: which of SPAN's moves keep it silent, and what every step keeps of it. -/

namespace Sys2Proof.SpanLaws

open Sys2Proof.Machine Sys2Proof.Frames Sys2Proof.ClockLaws

/-! ## What SPAN holds by itself -/

/-- The part of `SpanStanding` that speaks of SPAN alone. -/
def SpanInRange (sp : Span) : Prop :=
  (sp.mutedFlag = true ↔ sp.tx = .muted) ∧ sp.attempts ≤ 2 ∧ sp.idleRun ≤ 65535
    ∧ (sp.tx = .deferring ∨ sp.tx = .sending → sp.sched.isSome)

/-- The transmitter sends nothing and waits for no launch. -/
def Silent (sp : Span) : Prop := sp.tx = .quiet ∨ sp.tx = .muted

/-- The part of `SpanStanding` that speaks of the time before the first round. -/
def SilentBeforeRounds (s : State) : Prop :=
  s.agu.sync = .config ∨ s.agu.sync = .listen → s.agu.roundTimer = none ∧ s.net.roundStart = [] ∧ Silent s.span

theorem spanStanding_iff (s : State) : SpanStanding s ↔ SpanInRange s.span ∧ SilentBeforeRounds s := by
  simp only [SpanStanding, SpanInRange, SilentBeforeRounds, Silent, and_assoc]

theorem spanStanding_reads : Reads [.span, .agu, .roundStart] SpanStanding := by
  intro s t hsame h
  have hspan : t.span = s.span := hsame .span (by simp)
  have hagu : t.agu = s.agu := hsame .agu (by simp)
  have hround : t.net.roundStart = s.net.roundStart := hsame .roundStart (by simp)
  simp only [SpanStanding, hspan, hagu, hround]
  exact h

/-! ## The receiver leaves the transmitter as it is (R19, R20) -/

/-- `sp'` differs from `sp` in no field that says what the transmitter does. -/
def TxKept (sp sp' : Span) : Prop :=
  sp'.tx = sp.tx ∧ sp'.mutedFlag = sp.mutedFlag ∧ sp'.attempts = sp.attempts ∧ sp'.sched = sp.sched

theorem TxKept.trans {sp sp' sp'' : Span} (h : TxKept sp sp') (h' : TxKept sp' sp'') : TxKept sp sp'' := by
  obtain ⟨htx, hmuted, hattempts, hsched⟩ := h
  obtain ⟨htx', hmuted', hattempts', hsched'⟩ := h'
  exact ⟨htx'.trans htx, hmuted'.trans hmuted, hattempts'.trans hattempts, hsched'.trans hsched⟩

theorem TxKept.inRange {sp sp' : Span} (h : TxKept sp sp') (hidle : sp'.idleRun ≤ 65535) (hin : SpanInRange sp) :
    SpanInRange sp' := by
  obtain ⟨htx, hmuted, hattempts, hsched⟩ := h
  obtain ⟨hflag, hlimit, -, hdue⟩ := hin
  exact ⟨by rw [htx, hmuted]; exact hflag, hattempts ▸ hlimit, hidle, by rw [htx, hsched]; exact hdue⟩

theorem TxKept.silent {sp sp' : Span} (h : TxKept sp sp') (hs : Silent sp) : Silent sp' := by
  rwa [Silent, h.1]

theorem txKept_matchSync (n : Nat) (b : Bool) (sp : Span) : TxKept sp (matchSync n b sp) := by
  unfold matchSync
  split
  · split <;> exact ⟨rfl, rfl, rfl, rfl⟩
  · exact ⟨rfl, rfl, rfl, rfl⟩

theorem txKept_receiveSymbol (sym : LineSymbol) (sp : Span) : TxKept sp (receiveSymbol sym sp) := by
  unfold receiveSymbol
  split
  case h_5 b _ => exact txKept_matchSync 0 b sp
  case h_8 n b _ => exact txKept_matchSync n b sp
  case h_11 => split <;> exact ⟨rfl, rfl, rfl, rfl⟩
  all_goals exact ⟨rfl, rfl, rfl, rfl⟩

theorem txKept_reachCount (sp : Span) : TxKept sp (reachCount sp) := by
  unfold reachCount
  split <;> exact ⟨rfl, rfl, rfl, rfl⟩

theorem txKept_compareDriven (driven : Option Bool) (sym : LineSymbol) (sp : Span) : TxKept sp (compareDriven driven sym sp) := by
  unfold compareDriven
  split
  · exact ⟨rfl, rfl, rfl, rfl⟩
  · split <;> exact ⟨rfl, rfl, rfl, rfl⟩

theorem txKept_hearSymbol (station : Station) (sym : LineSymbol) (sp : Span) : TxKept sp (hearSymbol station sym sp) :=
  ((txKept_reachCount sp).trans (txKept_receiveSymbol sym _)).trans (txKept_compareDriven _ sym _)

theorem nextIdleRun_le (run : Nat) (sym : LineSymbol) : nextIdleRun run sym ≤ 65535 := by
  cases sym with
  | idle => exact Nat.min_le_left _ _
  | bit => exact Nat.zero_le _
  | contention => exact Nat.zero_le _

/-! ## The moves of the transmitter (R24 to R30) -/

theorem takeRoundStart_inRange {sp : Span} (launch : Tick) (first : Bool) (h : SpanInRange sp) :
    SpanInRange (takeRoundStart launch first sp) := by
  obtain ⟨hflag, hlimit, hidle, hdue⟩ := h
  cases htx : sp.tx <;> simp only [takeRoundStart, htx]
  case quiet =>
    have hunmuted : sp.mutedFlag = false := by simpa [htx] using hflag
    cases first
    · exact ⟨hflag, hlimit, hidle, hdue⟩
    · exact ⟨by simp [hunmuted], Nat.zero_le _, hidle, nofun⟩
  case waiting => exact ⟨by simpa [htx] using hflag, Nat.zero_le _, hidle, fun _ => rfl⟩
  case muted => exact ⟨hflag, hlimit, hidle, hdue⟩
  all_goals exact ⟨by simpa [htx] using hflag, hlimit, hidle, by simpa [htx] using hdue⟩

theorem backToWaiting_inRange {sp : Span} (hunmuted : sp.mutedFlag = false) (hidle : sp.idleRun ≤ 65535) :
    SpanInRange (backToWaiting sp) :=
  ⟨by simp [backToWaiting, hunmuted], Nat.zero_le _, hidle, by simp [backToWaiting]⟩

theorem SpanInRange.unmuted {sp : Span} (h : SpanInRange sp) (htx : sp.tx ≠ .muted) : sp.mutedFlag = false := by
  rw [← Bool.not_eq_true]
  exact fun hflag => htx (h.1.1 hflag)

theorem abandonFrame_inRange {sp : Span} (h : SpanInRange sp) (htx : sp.tx = .sending) : SpanInRange (abandonFrame sp) := by
  have hunmuted := h.unmuted (by simp [htx])
  obtain ⟨-, hlimit, hidle, hdue⟩ := h
  unfold abandonFrame
  split
  · exact backToWaiting_inRange hunmuted hidle
  · exact ⟨by simp [hunmuted], by simp only; omega, hidle, fun _ => hdue (.inr htx)⟩

theorem mute_inRange {sp : Span} (hidle : sp.idleRun ≤ 65535) : SpanInRange (mute sp) :=
  ⟨by simp [mute], Nat.zero_le _, hidle, by simp [mute]⟩

/-! ## The commands of SPAN -/

theorem spanStanding_onSpan {s : State} (h : SpanStanding s) {f : Span → Span} (hin : SpanInRange (f s.span))
    (hsilent : Silent s.span → Silent (f s.span)) : SpanStanding (s.onSpan f) := by
  obtain ⟨-, hbefore⟩ := (spanStanding_iff s).1 h
  refine (spanStanding_iff _).2 ⟨hin, fun hsync => ?_⟩
  obtain ⟨htimer, hround, hs⟩ := hbefore hsync
  exact ⟨htimer, hround, hsilent hs⟩

/-- A move that only a sending or deferring transmitter makes. -/
theorem spanStanding_onSpan_busy {s : State} (h : SpanStanding s) {f : Span → Span} (hin : SpanInRange (f s.span))
    (hbusy : s.span.tx ≠ .quiet ∧ s.span.tx ≠ .muted) : SpanStanding (s.onSpan f) :=
  spanStanding_onSpan h hin fun hs => (hs.elim hbusy.1 hbusy.2).elim

theorem spanStanding_onSpan_txKept {s : State} (h : SpanStanding s) {f : Span → Span} (hkept : TxKept s.span (f s.span))
    (hidle : (f s.span).idleRun ≤ 65535) : SpanStanding (s.onSpan f) :=
  spanStanding_onSpan h (hkept.inRange hidle ((spanStanding_iff s).1 h).1) hkept.silent

theorem receptionEnd_keeps {s : State} (h : SpanStanding s) : Leads SpanStanding (execReceptionEnd s) := by
  have hidle := ((spanStanding_iff s).1 h).1.2.2.1
  unfold execReceptionEnd
  split
  · exact (leads_next _ _).2 h
  next r rest _ =>
    have htaken : SpanStanding (s.onSpan fun sp => { sp with ended := rest }) :=
      spanStanding_onSpan_txKept h ⟨rfl, rfl, rfl, rfl⟩ hidle
    split
    · refine (leads_next _ _).2 ?_
      unfold State.classFrame
      split
      · split
        · exact htaken
        · unfold State.hearDuplicate
          split
          · exact htaken
          · exact htaken
          · exact spanStanding_onSpan (f := mute) htaken (mute_inRange hidle) fun _ => .inr rfl
      · split
        · exact htaken
        · split <;> exact htaken
    · exact (leads_next _ _).2 htaken

theorem roundStartNotice_keeps {s : State} (h : SpanStanding s) : Leads SpanStanding (execRoundStartNotice s) := by
  obtain ⟨hin, hbefore⟩ := (spanStanding_iff s).1 h
  unfold execRoundStartNotice
  split
  · exact (leads_next _ _).2 h
  next r rest hfront =>
    refine (leads_next _ _).2 ((spanStanding_iff _).2 ⟨takeRoundStart_inRange _ _ hin, fun hsync => ?_⟩)
    obtain ⟨-, hnone, -⟩ := hbefore hsync
    rw [hfront] at hnone
    cases hnone

theorem beaconCompletion_keeps {s : State} (h : SpanStanding s) : Leads SpanStanding (execBeaconCompletion s) := by
  obtain ⟨hin, -⟩ := (spanStanding_iff s).1 h
  unfold execBeaconCompletion
  split
  · exact (leads_next _ _).2 h
  · split
    next hsent =>
      have htx : s.span.tx = .sending := by
        simp only [frameSent, driverSending, Bool.and_eq_true, decide_eq_true_eq] at hsent
        exact hsent.1.1.1
      have hback := backToWaiting_inRange (hin.unmuted (by simp [htx])) hin.2.2.1
      exact (leads_next _ _).2 (spanStanding_onSpan_busy (f := fun sp => { backToWaiting sp with seq := sp.seq + 1 }) h hback
        (by simp [htx]))
    · exact (leads_next _ _).2 h

/-- The rounds have begun: nothing is asked of the time before them. -/
theorem spanStanding_of_begun {s t : State} (h : SpanStanding s) (hspan : t.span = s.span)
    (hsync : t.agu.sync ≠ .config ∧ t.agu.sync ≠ .listen) : SpanStanding t :=
  (spanStanding_iff t).2 ⟨hspan ▸ ((spanStanding_iff s).1 h).1, fun hs => (hs.elim hsync.1 hsync.2).elim⟩

theorem syncAfter_begun (outcome : RoundOutcome) (eligible : Nat) :
    syncAfter outcome eligible ≠ .config ∧ syncAfter outcome eligible ≠ .listen := by
  unfold syncAfter
  split
  · exact ⟨nofun, nofun⟩
  · split <;> exact ⟨nofun, nofun⟩

theorem exec_spanStanding (c : Instr) (s : State) (h : SpanStanding s) : Leads SpanStanding (exec c s) := by
  by_cases hc : ∀ b ∈ [Block.span, .agu, .roundStart], b ∉ writes c
  · exact spanStanding_reads.exec_keeps hc h
  obtain ⟨hin, hbefore⟩ := (spanStanding_iff s).1 h
  have hidle := hin.2.2.1
  have hrequest {code : Byte} {act : State → State × Status × List Byte} (hact : ∀ t, SpanStanding t → SpanStanding (act t).1) :
      Leads SpanStanding (.next (takeRequest code act s)) :=
    (leads_next _ _).2 (spanStanding_reads.takeRequest_keeps (by simp) hact h)
  cases c
  case fullReset straps =>
    refine (leads_next _ _).2 ((spanStanding_iff _).2 ⟨?_, fun _ => ⟨rfl, rfl, .inl rfl⟩⟩)
    exact ⟨by simp [State.resetWith, Span.reset], Nat.zero_le _, Nat.zero_le _, by simp [State.resetWith, Span.reset]⟩
  case restart straps =>
    refine hrequest fun t ht => (spanStanding_iff _).2 ⟨?_, fun _ => ⟨rfl, rfl, .inl rfl⟩⟩
    have hrun := ((spanStanding_iff t).1 ht).1.2.2.1
    exact ⟨by simp [takeRestart, restartAll, restartSpan, Span.reset], Nat.zero_le _, hrun,
      by simp [takeRestart, restartAll, restartSpan, Span.reset]⟩
  case start =>
    refine hrequest fun t ht => ?_
    unfold takeStart
    split
    next hconfig =>
      obtain ⟨htin, htbefore⟩ := (spanStanding_iff t).1 ht
      exact (spanStanding_iff _).2 ⟨htin, fun _ => htbefore (.inl hconfig)⟩
    · exact ht
  case settime sec ns u =>
    refine hrequest fun t ht => ?_
    unfold takeSettime
    split <;> exact ht
  case endOfSyncMark =>
    change Leads _ (execEndOfSyncMark s)
    unfold execEndOfSyncMark
    split
    · exact (leads_next _ _).2 (spanStanding_onSpan_txKept h ⟨rfl, rfl, rfl, rfl⟩ hidle)
    · exact (leads_next _ _).2 h
  case bitTime sym =>
    exact (leads_next _ _).2 (spanStanding_onSpan_txKept h (txKept_hearSymbol _ _ _) (nextIdleRun_le _ _))
  case receptionEnd => exact receptionEnd_keeps h
  case roundStartNotice => exact roundStartNotice_keeps h
  case beaconCompletion => exact beaconCompletion_keeps h
  case accusationList =>
    change Leads _ (execAccusationList s)
    unfold execAccusationList
    split
    · exact (leads_next _ _).2 h
    · split
      · exact (leads_next _ _).2 h
      · exact (leads_next _ _).2 (spanStanding_onSpan_txKept h ⟨rfl, rfl, rfl, rfl⟩ hidle)
  case scheduledLaunch =>
    change Leads _ (execScheduledLaunch s)
    unfold execScheduledLaunch
    split
    next htx hsched =>
      have hunmuted := hin.unmuted (by simp [htx])
      split
      · exact (leads_next _ _).2 (spanStanding_onSpan_busy h
          ⟨by simp [hunmuted], hin.2.1, hidle, fun _ => by simp [hsched]⟩ (by simp [htx]))
      · exact (leads_next _ _).2 h
    · exact (leads_next _ _).2 h
  case transmissionStart =>
    change Leads _ (execTransmissionStart s)
    unfold execTransmissionStart
    split
    next hpermitted =>
      have htx : s.span.tx = .deferring := by
        simp only [startPermitted, Bool.and_eq_true, decide_eq_true_eq] at hpermitted
        exact hpermitted.1.1
      exact (leads_next _ _).2 (spanStanding_onSpan_busy h
        ⟨by simp [hin.unmuted (by simp [htx])], hin.2.1, hidle, fun _ => hin.2.2.2 (.inl htx)⟩ (by simp [htx]))
    · exact (leads_next _ _).2 h
  case mismatch =>
    change Leads _ (execMismatch s)
    unfold execMismatch
    split
    next hmismatch =>
      have htx : s.span.tx = .sending := by
        simp only [Bool.and_eq_true, decide_eq_true_eq] at hmismatch
        exact hmismatch.1
      exact (leads_next _ _).2 (spanStanding_onSpan_busy h (abandonFrame_inRange hin htx) (by simp [htx]))
    · exact (leads_next _ _).2 h
  case deferralLimit =>
    change Leads _ (execDeferralLimit s)
    unfold execDeferralLimit
    split
    next hpassed =>
      have htx : s.span.tx = .deferring := by
        simp only [deferralPassed, Bool.and_eq_true, decide_eq_true_eq] at hpassed
        exact hpassed.1
      exact (leads_next _ _).2 (spanStanding_onSpan_busy h (backToWaiting_inRange (hin.unmuted (by simp [htx])) hidle)
        (by simp [htx]))
    · exact (leads_next _ _).2 h
  case endOfListen =>
    change Leads _ (execEndOfListen s)
    unfold execEndOfListen
    split
    · exact (leads_next _ _).2 (spanStanding_of_begun h rfl ⟨nofun, nofun⟩)
    · exact (leads_next _ _).2 h
  case roundClose =>
    change Leads _ (execRoundClose s)
    unfold execRoundClose
    split
    · exact (leads_next _ _).2 (spanStanding_of_begun h rfl (syncAfter_begun _ _))
    · exact (leads_next _ _).2 h
  case fallbackNoticeAtAgu =>
    change Leads _ (execFallbackNoticeAtAgu s)
    unfold execFallbackNoticeAtAgu
    split <;> exact (leads_next _ _).2 h
  case stepNoticeAtAgu =>
    change Leads _ (execStepNoticeAtAgu s)
    unfold execStepNoticeAtAgu
    split <;> exact (leads_next _ _).2 h
  case completionNotice =>
    change Leads _ (execCompletionNotice s)
    unfold execCompletionNotice
    split <;> exact (leads_next _ _).2 h
  all_goals exact absurd (by simp [writes]) hc

end Sys2Proof.SpanLaws
end

section
/-! AGU's standing: what a close finds and decides, which commands move the review timer, and what every step keeps. -/

namespace Sys2Proof.AgreementLaws

open Sys2Proof.Machine Sys2Proof.Frames Sys2Proof.SpanLaws

/-! ## What a close finds (R71 to R79) -/

theorem peerInterval_eq_some {s : State} {p : Station} {i : Interval} :
    peerInterval s p = some i ↔
      ∃ o, s.ptab[p].link = .admitted ∧ s.ptab[p].obs = some o ∧ s.dmon.drift[p].verdict ≠ .drifting
        ∧ agedBound s.osc.tick (profileAttrs s.svc.image s.ptab[p].profile).aging o < Config.unbounded
        ∧ i = { who := p
                lo := o.theta - agedBound s.osc.tick (profileAttrs s.svc.image s.ptab[p].profile).aging o
                hi := o.theta + agedBound s.osc.tick (profileAttrs s.svc.image s.ptab[p].profile).aging o } := by
  unfold peerInterval
  dsimp only
  split
  next o hlink hobs =>
    simp only [Bool.and_eq_true, decide_eq_true_eq, Option.ite_none_right_eq_some, Option.some.injEq, hlink, hobs, true_and,
      exists_eq_left', and_assoc, eq_comm (a := i)]
  next hno =>
    simp only [reduceCtorEq, false_iff, not_exists, not_and]
    exact fun o hlink hobs => (hno o hlink hobs).elim

theorem ownInterval_le {s : State} {i : Interval} (h : ownInterval s = some i) : i.lo ≤ i.hi := by
  unfold ownInterval at h
  split at h
  · cases h
    simp only
    omega
  · split at h
    · cases h
    · split at h
      · cases h
        simp only
        omega
      · cases h

theorem peerInterval_le {s : State} {p : Station} {i : Interval} (h : peerInterval s p = some i) : i.lo ≤ i.hi := by
  obtain ⟨o, -, -, -, -, rfl⟩ := peerInterval_eq_some.1 h
  simp only
  omega

theorem takenIntervals_le (s : State) : ∀ i ∈ takenIntervals s, i.lo ≤ i.hi := by
  intro i hi
  obtain ⟨p, -, hp⟩ := List.mem_filterMap.1 hi
  split at hp
  · exact ownInterval_le hp
  · exact peerInterval_le hp

theorem roundOutcome_agreed_iff (f n c : Nat) : roundOutcome f n c = .agreed ↔ 2 * f + 1 ≤ n ∧ n ≤ c + f := by
  unfold roundOutcome
  split
  · simp only [reduceCtorEq, false_iff]
    omega
  · split <;> simp only [reduceCtorEq, true_iff, false_iff] <;> omega

/-- R75: an AGREED close has a region. -/
theorem closeOf_agreed_region {s : State} (h : (closeOf s).outcome = .agreed) : ∃ a b, (closeOf s).region = some (a, b) := by
  obtain ⟨hn, -⟩ := (roundOutcome_agreed_iff _ _ _).1 h
  have hne : takenIntervals s ≠ [] := by
    rintro hnil
    rw [hnil, List.length_nil] at hn
    omega
  obtain ⟨c, a, b, hsweep, -⟩ := Sweep.sweep_spec hne (takenIntervals_le s)
  exact ⟨a, b, by simp [closeOf, hsweep]⟩

theorem closeCorrection_base_le (s : State) (outcome : RoundOutcome) (region : Option (Int × Int)) :
    ∀ b ∈ (closeCorrection s outcome region).base, b ≤ 4294967295 := by
  intro b hb
  unfold closeCorrection at hb
  split at hb
  · unfold agreedCorrection at hb
    dsimp only at hb
    split at hb <;> cases hb <;> exact satUnc_le _
  · split at hb <;> cases hb
    exact satUnc_le _

/-- R77: an AGREED close sets the base. -/
theorem agreed_sets_base {s : State} (h : (closeOf s).outcome = .agreed) : (closeOf s).correction.base.isSome := by
  obtain ⟨a, b, hregion⟩ := closeOf_agreed_region h
  have hcorrection : (closeOf s).correction = closeCorrection s (closeOf s).outcome (closeOf s).region := rfl
  rw [hcorrection, h, hregion]
  unfold closeCorrection agreedCorrection
  dsimp only
  split <;> rfl

theorem syncAfter_agreed_iff (outcome : RoundOutcome) (eligible : Nat) :
    syncAfter outcome eligible = .agreed ↔ outcome = .agreed := by
  unfold syncAfter
  split
  · simp
  next h => split <;> simp [show outcome ≠ .agreed from h]

theorem syncAfter_in_rounds (outcome : RoundOutcome) (eligible : Nat) :
    syncAfter outcome eligible = .lone ∨ syncAfter outcome eligible = .agreed ∨ syncAfter outcome eligible = .holdover := by
  unfold syncAfter
  split
  · simp
  · split <;> simp

theorem runAfter_le (outcome : RoundOutcome) (eligible : Nat) {run : Nat} (h : run ≤ 65535) :
    runAfter outcome eligible run ≤ 65535 := by
  unfold runAfter
  split
  · exact Nat.zero_le _
  · split
    · exact h
    · exact Nat.min_le_left _ _

/-! ## What AGU holds by itself -/

/-- The part of `AgreementStanding` that speaks of AGU alone. -/
def AguInRange (a : Agu) : Prop :=
  a.base ≤ 4294967295 ∧ a.run ≤ 65535 ∧ (a.sync = .listen ↔ a.endListen.isSome)
    ∧ (a.sync = .lone ∨ a.sync = .agreed ∨ a.sync = .holdover ↔ a.roundTimer.isSome)
    ∧ (a.sync = .agreed → a.unset = false ∧ a.run = 0)
    ∧ (a.sync = .config ∨ a.sync = .listen → a.humble = false ∧ a.run = 0 ∧ a.record = AgreementRecord.empty)
    ∧ (a.stepped = true → a.stepTick.isSome)

theorem agreementStanding_iff (s : State) :
    AgreementStanding s ↔ AguInRange s.agu ∧ (s.agu.sync ≠ .config ↔ s.dmon.reviewTimer.isSome) := by
  unfold AgreementStanding AguInRange
  constructor
  · rintro ⟨hbase, hrun, hlisten, hrounds, hreview, hrest⟩
    exact ⟨⟨hbase, hrun, hlisten, hrounds, hrest⟩, hreview⟩
  · rintro ⟨⟨hbase, hrun, hlisten, hrounds, hrest⟩, hreview⟩
    exact ⟨hbase, hrun, hlisten, hrounds, hreview, hrest⟩

theorem agreementStanding_reads : Reads [.agu, .dmon] AgreementStanding := by
  intro s t hsame h
  have hagu : t.agu = s.agu := hsame .agu (by simp)
  have hdmon : t.dmon = s.dmon := hsame .dmon (by simp)
  simp only [AgreementStanding, hagu, hdmon]
  exact h

/-- AGU and the review timer are all that `AgreementStanding` reads. -/
theorem agreementStanding_of_timer {s t : State} (h : AgreementStanding s) (hagu : t.agu = s.agu)
    (htimer : t.dmon.reviewTimer = s.dmon.reviewTimer) : AgreementStanding t := by
  rw [agreementStanding_iff, hagu, htimer]
  exact (agreementStanding_iff s).1 h

theorem agreementStanding_onAgu {s t : State} (h : AgreementStanding s) (hin : AguInRange t.agu)
    (hsync : t.agu.sync ≠ .config ↔ s.agu.sync ≠ .config) (hdmon : t.dmon = s.dmon) : AgreementStanding t := by
  rw [agreementStanding_iff, hdmon, hsync]
  exact ⟨hin, ((agreementStanding_iff s).1 h).2⟩

/-! ## The review timer (R92) -/

theorem raiseWarning_reviewTimer (w : Warning) (s : State) :
    (s.raiseWarning w).dmon.reviewTimer = s.dmon.reviewTimer ∧ (s.raiseWarning w).agu = s.agu := by
  unfold State.raiseWarning
  split <;> exact ⟨rfl, rfl⟩

theorem removeWarning_reviewTimer (k : WarningKind) (subj : Subject) (s : State) :
    (s.removeWarning k subj).dmon.reviewTimer = s.dmon.reviewTimer ∧ (s.removeWarning k subj).agu = s.agu := by
  unfold State.removeWarning
  split <;> exact ⟨rfl, rfl⟩

/-- Of the commands that DMON takes, REVIEW, START and the resets alone move the review timer. -/
theorem exec_dmon_reviewTimer (c : Instr) (hc : writes c = [.dmon] ∨ writes c = [.dmon, .toDmon]) (s : State) :
    Leads (fun t => t.agu = s.agu ∧ t.dmon.reviewTimer = s.dmon.reviewTimer) (exec c s) := by
  have hraise (w : Warning) (u : State) (hu : u.agu = s.agu ∧ u.dmon.reviewTimer = s.dmon.reviewTimer) :
      (u.raiseWarning w).agu = s.agu ∧ (u.raiseWarning w).dmon.reviewTimer = s.dmon.reviewTimer :=
    ⟨(raiseWarning_reviewTimer w u).2.trans hu.1, (raiseWarning_reviewTimer w u).1.trans hu.2⟩
  cases c
  case fallbackNoticeAtDmon =>
    change Leads _ (execFallbackNoticeAtDmon s)
    unfold execFallbackNoticeAtDmon
    split
    · exact (leads_next _ _).2 ⟨rfl, rfl⟩
    · exact (leads_next _ _).2 (hraise _ _ ⟨rfl, rfl⟩)
  case duplicateNotice =>
    change Leads _ (execDuplicateNotice s)
    unfold execDuplicateNotice
    split
    · exact (leads_next _ _).2 ⟨rfl, rfl⟩
    · exact (leads_next _ _).2 (hraise _ _ ⟨rfl, rfl⟩)
  case raiseNotice k =>
    change Leads _ (execRaiseNotice k s)
    unfold execRaiseNotice
    split
    · exact (leads_next _ _).2 (hraise _ _ ⟨rfl, rfl⟩)
    · exact (leads_next _ _).2 ⟨rfl, rfl⟩
  case removalNotice k =>
    change Leads _ (execRemovalNotice k s)
    unfold execRemovalNotice
    split
    · obtain ⟨htimer, hagu⟩ := removeWarning_reviewTimer (noticeWarning k) .own
        (s.onNet fun n => { n with warn := ‹List WarnNotice› })
      exact (leads_next _ _).2 ⟨hagu, htimer⟩
    · exact (leads_next _ _).2 ⟨rfl, rfl⟩
  case stepNoticeAtDmon =>
    change Leads _ (execStepNoticeAtDmon s)
    unfold execStepNoticeAtDmon
    split
    · exact (leads_next _ _).2 ⟨rfl, rfl⟩
    · simp only [leads_next, State.onDmon_agu, State.onDmon_dmon, State.onNet_agu, State.onNet_dmon, and_self]
  case sample =>
    change Leads _ (execSample s)
    unfold execSample
    split
    · split
      · exact (leads_next _ _).2 ⟨rfl, rfl⟩
      · simp only [leads_next, State.setDrift_agu, State.setDrift_dmon, State.onNet_agu, State.onNet_dmon, and_self]
    · exact (leads_next _ _).2 ⟨rfl, rfl⟩
  case leaveNotice =>
    change Leads _ (execLeaveNotice s)
    unfold execLeaveNotice
    split <;> exact (leads_next _ _).2 ⟨rfl, rfl⟩
  case windowNotice =>
    change Leads _ (execWindowNotice s)
    unfold execWindowNotice
    split <;> exact (leads_next _ _).2 ⟨rfl, rfl⟩
  all_goals exact absurd hc (by simp [writes])

/-! ## The commands of AGU, and those that reset or start it -/

theorem review_agreementStanding {s : State} (h : AgreementStanding s) : Leads AgreementStanding (execReview s) := by
  obtain ⟨hin, hreview⟩ := (agreementStanding_iff s).1 h
  unfold execReview
  split
  next hdue =>
    have htimer : s.dmon.reviewTimer.isSome := by
      unfold reviewDue at hdue
      split at hdue
      · cases hdue
      next ht => rw [ht]; rfl
    have hkept (t : State) (hagu : t.agu = s.agu) (hset : t.dmon.reviewTimer.isSome) : AgreementStanding t := by
      rw [agreementStanding_iff, hagu]
      exact ⟨hin, iff_of_true (hreview.2 htimer) hset⟩
    split
    · exact (leads_next _ _).2 (hkept _ rfl rfl)
    · exact (leads_next _ _).2 (hkept _ (changesOnly_conclusiveReview s .agu (by simp)) rfl)
  · exact (leads_next _ _).2 h

theorem roundClose_agreementStanding {s : State} (h : AgreementStanding s) : Leads AgreementStanding (execRoundClose s) := by
  obtain ⟨⟨hbase, hrun, hlisten, hrounds, -, -, hstepped⟩, -⟩ := (agreementStanding_iff s).1 h
  unfold execRoundClose
  split
  next hreached =>
    have hin : s.agu.sync = .lone ∨ s.agu.sync = .agreed ∨ s.agu.sync = .holdover := by
      rw [hrounds]
      cases htimer : s.agu.roundTimer with
      | none => simp [timerReached, htimer] at hreached
      | some => rfl
    have hold : s.agu.endListen = none := by
      rw [← Option.not_isSome_iff_eq_none, ← hlisten]
      rcases hin with hin | hin | hin <;> simp [hin]
    obtain ⟨hconfig, hnolisten⟩ := syncAfter_begun (closeOf s).outcome (eligiblePeers s)
    refine (leads_next _ _).2 (agreementStanding_onAgu h ⟨?_, ?_, ?_, ?_, ?_, ?_, hstepped⟩ ?_ rfl)
    · have hle := closeCorrection_base_le s (closeOf s).outcome (closeOf s).region
      change (closeCorrection s (closeOf s).outcome (closeOf s).region).base.getD s.agu.base ≤ 4294967295
      cases hset : (closeCorrection s (closeOf s).outcome (closeOf s).region).base with
      | none => exact hbase
      | some b => exact hle b hset
    · exact runAfter_le _ _ hrun
    · exact iff_of_false hnolisten (by simpa [closeRound, aguAfterClose] using hold)
    · exact iff_of_true (syncAfter_in_rounds _ _) rfl
    · intro hagreed
      have hout := (syncAfter_agreed_iff _ _).1 hagreed
      refine ⟨if_pos (agreed_sets_base hout), ?_⟩
      change runAfter (closeOf s).outcome _ _ = 0
      rw [hout]
      rfl
    · exact fun hsync => (hsync.elim hconfig hnolisten).elim
    · exact iff_of_true hconfig (by rcases hin with hin | hin | hin <;> simp [hin])
  · exact (leads_next _ _).2 h

theorem endOfListen_agreementStanding {s : State} (h : AgreementStanding s) : Leads AgreementStanding (execEndOfListen s) := by
  obtain ⟨⟨hbase, hrun, -, -, -, -, hstepped⟩, -⟩ := (agreementStanding_iff s).1 h
  unfold execEndOfListen
  split
  next hended =>
    simp only [Bool.and_eq_true, decide_eq_true_eq] at hended
    refine (leads_next _ _).2 (agreementStanding_onAgu h
      ⟨hbase, hrun, iff_of_false nofun nofun, iff_of_true (.inl rfl) rfl, nofun, fun hs => (by simp at hs), hstepped⟩
      (iff_of_true nofun (by simp [hended.1])) rfl)
  · exact (leads_next _ _).2 h

/-- A notice changes base, base tick, tolerance or STEPPED at most. -/
theorem aguNotice_agreementStanding {s t : State} (h : AgreementStanding s) (hdmon : t.dmon = s.dmon)
    (hbase : t.agu.base ≤ 4294967295) (hstepped : t.agu.stepped = true → t.agu.stepTick.isSome)
    (hagu : t.agu =
      { s.agu with
        base := t.agu.base, baseTick := t.agu.baseTick, onBackup := t.agu.onBackup, stepped := t.agu.stepped
        stepTick := t.agu.stepTick }) : AgreementStanding t := by
  obtain ⟨⟨-, hrun, hlisten, hrounds, hagreed, hearly, -⟩, -⟩ := (agreementStanding_iff s).1 h
  refine agreementStanding_onAgu h ?_ (by rw [hagu]) hdmon
  rw [hagu]
  exact ⟨hbase, hrun, hlisten, hrounds, hagreed, hearly, hstepped⟩

theorem aguInRange_reset : AguInRange Agu.reset := by
  refine ⟨Nat.le_refl _, Nat.zero_le _, ?_, ?_, nofun, fun _ => ⟨rfl, rfl, rfl⟩, nofun⟩ <;> simp [Agu.reset]

theorem takeStart_agreementStanding {s : State} (h : AgreementStanding s) : AgreementStanding (takeStart s).1 := by
  unfold takeStart
  split
  next hconfig =>
    obtain ⟨⟨hbase, hrun, -, hrounds, -, hearly, hstepped⟩, -⟩ := (agreementStanding_iff s).1 h
    refine (agreementStanding_iff _).2
      ⟨⟨hbase, hrun, iff_of_true rfl rfl, ?_, nofun, fun _ => hearly (.inl hconfig), hstepped⟩, iff_of_true nofun rfl⟩
    simpa [startAll, hconfig] using hrounds
  · exact h

theorem takeRestart_agreementStanding (straps : Straps) {s : State} (h : AgreementStanding s) :
    AgreementStanding (takeRestart straps s).1 := by
  obtain ⟨-, -, hlisten, hrounds, hagreed, hearly, hstepped⟩ := aguInRange_reset
  exact (agreementStanding_iff _).2
    ⟨⟨((agreementStanding_iff s).1 h).1.1, Nat.zero_le _, hlisten, hrounds, nofun, hearly, hstepped⟩,
      iff_of_false (fun hne => hne rfl) nofun⟩

theorem takeSettime_agreementStanding (sec : BitVec 48) (ns u : BitVec 32) {s : State} (h : AgreementStanding s) :
    AgreementStanding (takeSettime sec ns u s).1 := by
  obtain ⟨⟨-, hrun, hlisten, hrounds, hagreed, hearly, hstepped⟩, -⟩ := (agreementStanding_iff s).1 h
  unfold takeSettime
  split
  · exact agreementStanding_onAgu h
      ⟨satUnc_le _, hrun, hlisten, hrounds, fun hsync => ⟨rfl, (hagreed hsync).2⟩, hearly, hstepped⟩ Iff.rfl rfl
  · exact h

theorem exec_agreementStanding (c : Instr) (s : State) (h : AgreementStanding s) : Leads AgreementStanding (exec c s) := by
  by_cases hc : ∀ b ∈ [Block.agu, .dmon], b ∉ writes c
  · exact agreementStanding_reads.exec_keeps hc h
  by_cases hdmon : writes c = [.dmon] ∨ writes c = [.dmon, .toDmon]
  · exact (exec_dmon_reviewTimer c hdmon s).mono fun t ht => agreementStanding_of_timer h ht.1 ht.2
  have hin := ((agreementStanding_iff s).1 h).1
  have hrequest {code : Byte} {act : State → State × Status × List Byte}
      (hact : ∀ t, AgreementStanding t → AgreementStanding (act t).1) : Leads AgreementStanding (.next (takeRequest code act s)) :=
    (leads_next _ _).2 (agreementStanding_reads.takeRequest_keeps (by simp) hact h)
  cases c
  case fullReset straps =>
    exact (leads_next _ _).2 ((agreementStanding_iff _).2 ⟨aguInRange_reset, iff_of_false (fun hne => hne rfl) nofun⟩)
  case restart straps => exact hrequest fun t ht => takeRestart_agreementStanding straps ht
  case start => exact hrequest fun t ht => takeStart_agreementStanding ht
  case settime sec ns u => exact hrequest fun t ht => takeSettime_agreementStanding sec ns u ht
  case review => exact review_agreementStanding h
  case roundClose => exact roundClose_agreementStanding h
  case endOfListen => exact endOfListen_agreementStanding h
  case fallbackNoticeAtAgu =>
    change Leads _ (execFallbackNoticeAtAgu s)
    unfold execFallbackNoticeAtAgu
    split
    · exact (leads_next _ _).2 (aguNotice_agreementStanding h rfl (ownU_le _) hin.2.2.2.2.2.2 rfl)
    · exact (leads_next _ _).2 h
  case stepNoticeAtAgu =>
    change Leads _ (execStepNoticeAtAgu s)
    unfold execStepNoticeAtAgu
    split
    · exact (leads_next _ _).2 h
    · exact (leads_next _ _).2 (aguNotice_agreementStanding h rfl hin.1 (fun _ => rfl) rfl)
  case completionNotice =>
    change Leads _ (execCompletionNotice s)
    unfold execCompletionNotice
    split
    · exact (leads_next _ _).2 h
    · refine (leads_next _ _).2 (aguNotice_agreementStanding h rfl hin.1 (fun hst => ?_) rfl)
      exact hin.2.2.2.2.2.2 (Bool.and_eq_true_iff.1 hst).1
  case fallbackNoticeAtDmon | duplicateNotice | raiseNotice | removalNotice | stepNoticeAtDmon | sample | leaveNotice
      | windowNotice => exact absurd (by simp [writes]) hdmon
  all_goals exact absurd (by simp [writes]) hc

/-- Settles O6, by the standing of SPAN and that of AGU, each kept by every command. -/
theorem spanStandingKept : Obligations.SpanStandingKept :=
  ⟨step_keeps (fun _ _ h => h) exec_spanStanding, step_keeps (fun _ _ h => h) exec_agreementStanding⟩

end Sys2Proof.AgreementLaws
end

section
/-! The peer table: what each of PTAB's moves makes of a record, and what every step keeps of the table. -/

namespace Sys2Proof.PeerLaws

open Sys2Proof.Machine Sys2Proof.Frames

/-! ## Standing by link state -/

theorem peerRecordStanding_of_listening {r : PeerRecord} (h : r.link = .listening) :
    PeerRecordStanding r ↔
      r.inBeat ≤ 1 ∧ r.dissent = 0 ∧ r.interval.isSome ∧ r.obs.isSome ∧ r.barExpiry = none ∧ r.silenceExpiry.isSome := by
  simp only [PeerRecordStanding, h]

theorem peerRecordStanding_of_admitted {r : PeerRecord} (h : r.link = .admitted) :
    PeerRecordStanding r ↔
      r.inBeat = 2 ∧ r.dissent ≤ 2 ∧ r.interval.isSome ∧ r.obs.isSome ∧ r.barExpiry = none ∧ r.silenceExpiry.isSome := by
  simp only [PeerRecordStanding, h]

theorem peerRecordStanding_of_barred {r : PeerRecord} (h : r.link = .barred) :
    PeerRecordStanding r ↔
      r.inBeat = 0 ∧ r.dissent = 0 ∧ r.interval.isSome ∧ r.obs.isSome ∧ r.barExpiry.isSome ∧ r.silenceExpiry = none := by
  simp only [PeerRecordStanding, h]

theorem peerRecordStanding_of_silent {r : PeerRecord} (h : r.link = .silent) :
    PeerRecordStanding r ↔
      r.inBeat = 0 ∧ r.dissent = 0 ∧ r.interval.isSome ∧ r.obs.isSome ∧ r.barExpiry = none ∧ r.silenceExpiry.isSome := by
  simp only [PeerRecordStanding, h]

theorem peerRecordStanding_reset (profile : Option ProfileSel) :
    PeerRecordStanding { PeerRecord.reset with profile := profile } := by
  simp [PeerRecordStanding, PeerRecord.reset]

/-- What a record keeps that is not BARRED: no bar expiry, and a dissent count that only ADMITTED counts. -/
theorem unbarred_of_standing {r : PeerRecord} (h : PeerRecordStanding r) (hlink : r.link ≠ .barred) :
    r.barExpiry = none ∧ r.dissent ≤ 2 ∧ (r.link ≠ .admitted → r.dissent = 0) := by
  unfold PeerRecordStanding at h
  cases hl : r.link <;> simp_all

/-! ## A frame taken (R43 to R47) -/

theorem acceptBeacon_listening {r : PeerRecord} (h : PeerRecordStanding r) (hlink : r.link ≠ .barred) (own : Station)
    (a : ProfileAttrs) (f : HandOff) : PeerRecordStanding (acceptBeacon own a .listening 1 f r) := by
  obtain ⟨hbar, -, hdissent⟩ := unbarred_of_standing h hlink
  refine (peerRecordStanding_of_listening rfl).2 ⟨le_rfl, ?_, rfl, rfl, hbar, rfl⟩
  by_cases hadmitted : r.link = .admitted <;> simp [acceptBeacon, hadmitted, hdissent]

theorem acceptBeacon_admitted {r : PeerRecord} (h : PeerRecordStanding r) (hlink : r.link ≠ .barred) (own : Station)
    (a : ProfileAttrs) (f : HandOff) : PeerRecordStanding (acceptBeacon own a .admitted 2 f r) := by
  obtain ⟨hbar, hdissent, -⟩ := unbarred_of_standing h hlink
  refine (peerRecordStanding_of_admitted rfl).2 ⟨rfl, ?_, rfl, rfl, hbar, rfl⟩
  simpa [acceptBeacon] using hdissent

theorem barRecord_standing {r : PeerRecord} (h : PeerRecordStanding r) (hlink : r.link = .admitted) (tick : Tick) :
    PeerRecordStanding (barRecord tick r) := by
  obtain ⟨-, -, hinterval, hobs, -⟩ := (peerRecordStanding_of_admitted hlink).1 h
  exact (peerRecordStanding_of_barred rfl).2 ⟨rfl, rfl, hinterval, hobs, rfl, rfl⟩

theorem testedBeacon_standing {r : PeerRecord} (h : PeerRecordStanding r) (hlink : r.link ≠ .barred) (own : Station)
    (tick : Tick) (a : ProfileAttrs) (f : HandOff) : PeerRecordStanding (testedBeacon own tick a f r).1 := by
  unfold testedBeacon
  split
  · exact acceptBeacon_admitted h hlink own a f
  next hadmitted _ => exact barRecord_standing h hadmitted tick
  · exact acceptBeacon_listening h hlink own a f
  · exact acceptBeacon_admitted h hlink own a f
  · exact acceptBeacon_listening h hlink own a f

theorem takeFrame_standing {r : PeerRecord} (h : PeerRecordStanding r) (own : Station) (tick : Tick) (a : ProfileAttrs)
    (f : HandOff) : PeerRecordStanding (takeFrame own tick a f r).1 := by
  unfold takeFrame
  split
  case h_1 => exact h
  case h_2 hl => exact acceptBeacon_listening h (by simp [hl]) own a f
  case h_3 hl =>
    split
    · exact acceptBeacon_listening h (by simp [hl]) own a f
    · split
      · exact h
      · exact testedBeacon_standing h (by simp [hl]) own tick a f
  all_goals
    split
    · exact h
    · exact testedBeacon_standing h (by simp [*]) own tick a f

/-! ## Expiries, dissents and rebases (R47 to R49, R54, R58) -/

theorem releaseBar_standing {r : PeerRecord} (h : PeerRecordStanding r) (hlink : r.link = .barred) (accept : Nat) (t : Tick) :
    PeerRecordStanding (releaseBar accept t r) := by
  obtain ⟨-, hdissent, hinterval, hobs, -⟩ := (peerRecordStanding_of_barred hlink).1 h
  exact (peerRecordStanding_of_listening rfl).2 ⟨Nat.zero_le _, hdissent, hinterval, hobs, rfl, rfl⟩

theorem fallSilent_standing {r : PeerRecord} (h : PeerRecordStanding r) (hlink : r.link = .listening ∨ r.link = .admitted)
    (e : Int) : PeerRecordStanding (fallSilent e r) := by
  refine (peerRecordStanding_of_silent rfl).2 ?_
  rcases hlink with hlink | hlink
  · obtain ⟨-, -, hinterval, hobs, hbar, -⟩ := (peerRecordStanding_of_listening hlink).1 h
    exact ⟨rfl, rfl, hinterval, hobs, hbar, rfl⟩
  · obtain ⟨-, -, hinterval, hobs, hbar, -⟩ := (peerRecordStanding_of_admitted hlink).1 h
    exact ⟨rfl, rfl, hinterval, hobs, hbar, rfl⟩

theorem countDissent_standing {r : PeerRecord} (h : PeerRecordStanding r) (tick : Tick) :
    PeerRecordStanding (countDissent tick r) := by
  unfold countDissent
  split
  next hlink =>
    split
    · exact barRecord_standing h hlink tick
    next hfew =>
      obtain ⟨hbeat, -, hrest⟩ := (peerRecordStanding_of_admitted hlink).1 h
      exact (peerRecordStanding_of_admitted (r := { r with dissent := r.dissent + 1 }) hlink).2
        ⟨hbeat, by simp only; omega, hrest⟩
  · exact h

theorem clearDissent_standing {r : PeerRecord} (h : PeerRecordStanding r) : PeerRecordStanding (clearDissent r) := by
  unfold clearDissent
  split
  next hlink =>
    obtain ⟨hbeat, -, hrest⟩ := (peerRecordStanding_of_admitted hlink).1 h
    exact (peerRecordStanding_of_admitted (r := { r with dissent := 0 }) hlink).2 ⟨hbeat, Nat.zero_le _, hrest⟩
  · exact h

theorem afterDissent_standing {r : PeerRecord} (h : PeerRecordStanding r) (own : Station) (tick : Tick) (d : Dissent)
    (p : Station) : PeerRecordStanding (afterDissent own tick d p r) := by
  unfold afterDissent
  split
  · exact h
  · split
    · exact countDissent_standing h tick
    · split
      · exact clearDissent_standing h
      · exact h

theorem rebaseRecord_standing {r : PeerRecord} (h : PeerRecordStanding r) (c : Int) : PeerRecordStanding (rebaseRecord c r) := by
  unfold PeerRecordStanding rebaseRecord at *
  cases hlink : r.link <;> simpa [hlink] using h

/-! ## The table as a whole -/

theorem peerTableStanding_reads : Reads [.ptab, .handOffs, .settings] PeerTableStanding := by
  intro s t hsame h
  have hptab : t.ptab = s.ptab := hsame .ptab (by simp)
  have hoffs : t.net.handOffs = s.net.handOffs := hsame .handOffs (by simp)
  obtain ⟨hstation, -⟩ : Block.Same s t .settings := hsame .settings (by simp)
  simp only [PeerTableStanding, hptab, hoffs, hstation]
  exact h

theorem peerTableStanding_of_table {s t : State} (h : PeerTableStanding s) (hptab : t.ptab = s.ptab)
    (hstation : t.svc.station = s.svc.station) (hoffs : ∀ f ∈ t.net.handOffs, f.station ≠ s.svc.station) :
    PeerTableStanding t := by
  obtain ⟨hall, hown, -⟩ := h
  simp only [PeerTableStanding, hptab, hstation]
  exact ⟨hall, hown, hoffs⟩

theorem not_own_of_present {s : State} (h : PeerTableStanding s) {p : Station} (hlink : s.ptab[p].link ≠ .absent) :
    p ≠ s.svc.station := by
  rintro rfl
  exact hlink h.2.1

/-- A peer's record, and nothing else that the table's standing reads, is set. -/
theorem peerTableStanding_setPeer {s t : State} (h : PeerTableStanding s) {p : Station} {r : PeerRecord}
    (hr : PeerRecordStanding r) (hp : p ≠ s.svc.station) (hptab : t.ptab = s.ptab.set p r)
    (hstation : t.svc.station = s.svc.station) (hoffs : ∀ f ∈ t.net.handOffs, f ∈ s.net.handOffs) : PeerTableStanding t := by
  obtain ⟨hall, hown, hnone⟩ := h
  refine ⟨fun q => ?_, ?_, fun f hf => hstation ▸ hnone f (hoffs f hf)⟩
  · by_cases hq : p = q
    · subst hq
      simpa [hptab] using hr
    · have hval : p.val ≠ q.val := Fin.val_ne_of_ne hq
      have hkept := hall q
      simpa [hptab, Vector.getElem_set, hval] using hkept
  · have hval : p.val ≠ s.svc.station.val := Fin.val_ne_of_ne hp
    simpa [hptab, hstation, Vector.getElem_set, hval] using hown

/-- Every record goes through one function that leaves the own record ABSENT. -/
theorem peerTableStanding_mapNumbered {s t : State} (h : PeerTableStanding s) {f : Station → PeerRecord → PeerRecord}
    (hf : ∀ p r, PeerRecordStanding r → PeerRecordStanding (f p r))
    (hown : ∀ r, r.link = .absent → (f s.svc.station r).link = .absent) (hptab : t.ptab = mapNumbered f s.ptab)
    (hstation : t.svc.station = s.svc.station) (hoffs : t.net.handOffs = s.net.handOffs) : PeerTableStanding t := by
  obtain ⟨hall, habsent, hnone⟩ := h
  refine ⟨fun p => ?_, ?_, by rw [hoffs, hstation]; exact hnone⟩
  · have hp := hf p s.ptab[p] (hall p)
    simpa [hptab] using hp
  · have hp := hown s.ptab[s.svc.station] habsent
    simpa [hptab, hstation] using hp

theorem peerTableStanding_absent {t : State} (hptab : ∀ p : Station, t.ptab[p] = PeerRecord.reset) (hoffs : t.net.handOffs = []) :
    PeerTableStanding t := by
  refine ⟨fun p => ?_, ?_, by simp [hoffs]⟩
  · rw [hptab]
    exact peerRecordStanding_reset none
  · rw [hptab]
    rfl

/-! ## The commands of PTAB, and those that hand frames on or set the own number -/

theorem handOff_keeps {s : State} (h : PeerTableStanding s) : Leads PeerTableStanding (execHandOff s) := by
  unfold execHandOff
  split
  · exact (leads_next _ _).2 h
  next f rest hfront =>
    have hp : f.station ≠ s.svc.station := h.2.2 f (by simp [hfront])
    exact (leads_next _ _).2 (peerTableStanding_setPeer h (takeFrame_standing (h.1 f.station) _ _ _ f) hp rfl rfl
      (fun g hg => by rw [hfront]; exact List.mem_cons_of_mem f hg))

theorem barExpiry_keeps (p : Station) {s : State} (h : PeerTableStanding s) : Leads PeerTableStanding (execBarExpiry p s) := by
  unfold execBarExpiry
  dsimp only
  split
  next t hlink _ =>
    split
    · exact (leads_next _ _).2 (peerTableStanding_setPeer h (releaseBar_standing (h.1 p) hlink _ t)
        (not_own_of_present h (by rw [hlink]; nofun)) rfl rfl fun _ hf => hf)
    · exact (leads_next _ _).2 h
  · exact (leads_next _ _).2 h

theorem silenceExpiry_keeps (p : Station) {s : State} (h : PeerTableStanding s) :
    Leads PeerTableStanding (execSilenceExpiry p s) := by
  unfold execSilenceExpiry
  dsimp only
  split
  · exact (leads_next _ _).2 h
  next e _ =>
    split
    · split
      next hlink =>
        exact (leads_next _ _).2 (peerTableStanding_setPeer h (fallSilent_standing (h.1 p) (.inl hlink) e)
          (not_own_of_present h (by rw [hlink]; nofun)) rfl rfl fun _ hf => hf)
      next hlink =>
        exact (leads_next _ _).2 (peerTableStanding_setPeer h (fallSilent_standing (h.1 p) (.inr hlink) e)
          (not_own_of_present h (by rw [hlink]; nofun)) rfl rfl fun _ hf => hf)
      next hlink =>
        exact (leads_next _ _).2 (peerTableStanding_setPeer h (peerRecordStanding_reset _)
          (not_own_of_present h (by rw [hlink]; nofun)) rfl rfl fun _ hf => hf)
      · exact (leads_next _ _).2 h
      · exact (leads_next _ _).2 h
    · exact (leads_next _ _).2 h

theorem dissentNotice_keeps {s : State} (h : PeerTableStanding s) : Leads PeerTableStanding (execDissentNotice s) := by
  unfold execDissentNotice
  split
  · exact (leads_next _ _).2 h
  next d rest _ =>
    exact (leads_next _ _).2 (peerTableStanding_mapNumbered h (fun p r hr => afterDissent_standing hr _ _ d p)
      (fun r hr => by simpa [afterDissent] using hr) rfl rfl rfl)

theorem rebaseNotice_keeps {s : State} (h : PeerTableStanding s) : Leads PeerTableStanding (execRebaseNotice s) := by
  unfold execRebaseNotice
  split
  · exact (leads_next _ _).2 h
  next c rest _ =>
    exact (leads_next _ _).2 (peerTableStanding_mapNumbered h (f := fun _ => rebaseRecord c)
      (fun _ r hr => rebaseRecord_standing hr c) (fun _ hr => hr) rfl rfl rfl)

theorem classFrame_handOffs {s : State} (h : ∀ g ∈ s.net.handOffs, g.station ≠ s.svc.station) (f : Frame) (r : Readings) :
    ∀ g ∈ (s.classFrame f r).net.handOffs, g.station ≠ s.svc.station := by
  unfold State.classFrame
  split
  · split
    · exact h
    · unfold State.hearDuplicate
      split <;> exact h
  next hother =>
    split
    · exact h
    · split
      · exact h
      · intro g hg
        rcases List.mem_append.1 hg with hold | hnew
        · exact h g hold
        · rw [List.mem_singleton.1 hnew]
          exact hother

theorem receptionEnd_keeps {s : State} (h : PeerTableStanding s) : Leads PeerTableStanding (execReceptionEnd s) := by
  unfold execReceptionEnd
  split
  · exact (leads_next _ _).2 h
  next r rest _ =>
    dsimp only
    split
    next f rd _ _ =>
      have hframe := changesOnly_classFrame f rd (s.onSpan fun sp => { sp with ended := rest })
      obtain ⟨hstation, -⟩ : Block.Same _ _ .settings := hframe .settings (by simp)
      exact (leads_next _ _).2 (peerTableStanding_of_table h (hframe .ptab (by simp)) hstation
        (classFrame_handOffs (s := s.onSpan fun sp => { sp with ended := rest }) h.2.2 f rd))
    · exact (leads_next _ _).2 h

theorem exec_peerTableStanding (c : Instr) (s : State) (h : PeerTableStanding s) : Leads PeerTableStanding (exec c s) := by
  by_cases hc : ∀ b ∈ [Block.ptab, .handOffs, .settings], b ∉ writes c
  · exact peerTableStanding_reads.exec_keeps hc h
  have hrequest {code : Byte} {act : State → State × Status × List Byte}
      (hact : ∀ t, PeerTableStanding t → PeerTableStanding (act t).1) : Leads PeerTableStanding (.next (takeRequest code act s)) :=
    (leads_next _ _).2 (peerTableStanding_reads.takeRequest_keeps (by simp) hact h)
  cases c
  case fullReset straps =>
    exact (leads_next _ _).2 (peerTableStanding_absent (fun p => by simp [State.resetWith]) rfl)
  case restart straps =>
    exact hrequest fun t _ => peerTableStanding_absent (fun p => by simp [takeRestart, restartAll]) rfl
  case start =>
    refine hrequest fun t ht => ?_
    unfold takeStart
    split
    · exact peerTableStanding_mapNumbered ht (f := fun p r => { r with profile := some (profileFor t.svc.image p) })
        (fun _ _ hr => hr) (fun _ hr => hr) rfl rfl rfl
    · exact ht
  case configure items =>
    refine hrequest fun t ht => ?_
    unfold takeConfigure
    split
    · exact ht
    · split
      · exact ht
      · split
        · exact ht
        · exact ht
  case handOff => exact handOff_keeps h
  case receptionEnd => exact receptionEnd_keeps h
  case barExpiry p => exact barExpiry_keeps p h
  case silenceExpiry p => exact silenceExpiry_keeps p h
  case dissentNotice => exact dissentNotice_keeps h
  case rebaseNotice => exact rebaseNotice_keeps h
  all_goals exact absurd (by simp [writes]) hc

end Sys2Proof.PeerLaws
end

section
/-! The anchor input: what each pulse and window end makes of ANCH, and what every step keeps of it. -/

namespace Sys2Proof.AnchorLaws

open Sys2Proof.Machine Sys2Proof.Frames

/-! ## What ANCH holds by itself -/

/-- The part of `AnchorStanding` that speaks of ANCH alone. -/
def AnchInRange (a : Anch) : Prop :=
  (a.window.isSome → a.state = .armed ∨ a.state = .qualified)
    ∧ (a.state = .qualified → a.alpha.isSome ∧ a.s.isSome ∧ a.window.isSome ∧ a.lastGood.isSome)
    ∧ (a.state = .armed → a.s.isSome)
    ∧ (a.state = .unarmed → a.s = none ∧ a.alpha = none ∧ a.lastGood = none)
    ∧ a.good ≤ 2 ∧ (a.good ≠ 0 → a.state = .armed ∧ a.window.isSome)
    ∧ a.miss ≤ 1 ∧ (a.miss ≠ 0 → a.state = .qualified)
    ∧ a.uRef ≤ 1000000 ∧ ∀ sec ∈ a.s, sec ≤ 281474976710655

theorem anchorStanding_iff (s : State) :
    AnchorStanding s ↔ AnchInRange s.anch ∧ (s.agu.sync = .config → s.anch.state = .unarmed) := by
  simp only [AnchorStanding, AnchInRange, and_assoc]

theorem anchorStanding_reads : Reads [.anch, .config] AnchorStanding := by
  intro s t hsame h
  have hanch : t.anch = s.anch := hsame .anch (by simp)
  have hconfig : t.agu.sync = .config → s.agu.sync = .config := hsame .config (by simp)
  rw [anchorStanding_iff] at h ⊢
  rw [hanch]
  exact ⟨h.1, fun hc => h.2 (hconfig hc)⟩

theorem nextSecond_le (n : Nat) : nextSecond n ≤ 281474976710655 := Nat.min_le_left _ _

/-! ## Pulses and window ends (R111 to R116) -/

theorem leadPulse_inRange {a : Anch} (h : AnchInRange a) (hstate : a.state = .armed) (p : Pulse) (half mark : Nat) :
    AnchInRange (leadPulse p half mark a) := by
  obtain ⟨-, -, -, -, hgood, -, hmiss, hmissed, huref, -⟩ := h
  refine ⟨fun _ => .inl hstate, ?_, fun _ => rfl, ?_, hgood, fun _ => ⟨hstate, rfl⟩, hmiss, hmissed, huref, ?_⟩
  · simp [leadPulse, hstate]
  · simp [leadPulse, hstate]
  · simp [leadPulse, nextSecond_le]

theorem loseAnchor_inRange {a : Anch} (h : AnchInRange a) : AnchInRange (loseAnchor a) := by
  obtain ⟨-, -, -, -, -, -, -, -, huref, hsec⟩ := h
  exact ⟨nofun, nofun, nofun, nofun, Nat.zero_le _, fun hne => (hne rfl).elim, Nat.zero_le _, fun hne => (hne rfl).elim, huref,
    hsec⟩

/-- A good pulse leaves the anchor ARMED with at most two counted, or QUALIFIED. -/
theorem goodPulse_inRange {a : Anch} (h : AnchInRange a) (p : Pulse) (half : Nat) {x : AnchorState} {good miss : Nat}
    (hx : x = .armed ∧ good ≤ 2 ∧ miss = 0 ∨ x = .qualified ∧ good = 0 ∧ miss ≤ 1) :
    AnchInRange { goodPulse p half a with state := x, good := good, miss := miss } := by
  obtain ⟨-, -, -, -, -, -, -, -, huref, -⟩ := h
  have hsec : ∀ sec ∈ (goodPulse p half a).s, sec ≤ 281474976710655 := by simp [goodPulse, nextSecond_le]
  rcases hx with ⟨rfl, hgood, rfl⟩ | ⟨rfl, rfl, hmiss⟩
  · exact ⟨fun _ => .inl rfl, nofun, fun _ => rfl, nofun, hgood, fun _ => ⟨rfl, rfl⟩, Nat.zero_le _, fun hne => (hne rfl).elim,
      huref, hsec⟩
  · exact ⟨fun _ => .inr rfl, fun _ => ⟨rfl, rfl, rfl, rfl⟩, nofun, nofun, Nat.zero_le _, fun hne => (hne rfl).elim, hmiss,
      fun _ => rfl, huref, hsec⟩

theorem takeGoodPulse_inRange {s : State} (h : AnchInRange s.anch) (hlive : s.anch.state = .armed ∨ s.anch.state = .qualified)
    (p : Pulse) : AnchInRange (s.takeGoodPulse p).anch := by
  have hgood : s.anch.good ≠ 0 → s.anch.state = .armed ∧ _ := h.2.2.2.2.2.1
  have hmiss : s.anch.miss ≠ 0 → s.anch.state = .qualified := h.2.2.2.2.2.2.2.1
  unfold State.takeGoodPulse
  dsimp only
  split
  next harmed =>
    split
    · exact goodPulse_inRange h p _ (.inr ⟨rfl, rfl, Nat.zero_le _⟩)
    next hfew =>
      have hnone : s.anch.miss = 0 := by
        by_contra hne
        simp [hmiss hne] at harmed
      exact goodPulse_inRange h p _ (x := s.anch.state) (miss := s.anch.miss) (.inl ⟨harmed, by omega, hnone⟩)
  next harmed =>
    have hqualified : s.anch.state = .qualified := hlive.resolve_left harmed
    have hnone : s.anch.good = 0 := by
      by_contra hne
      exact harmed (hgood hne).1
    exact goodPulse_inRange h p _ (x := s.anch.state) (good := s.anch.good) (.inr ⟨hqualified, hnone, Nat.zero_le _⟩)

/-- A count of misses, or a fresh window, in a live anchor. -/
theorem windowCount_inRange {a : Anch} (h : AnchInRange a) (w : AnchorWindow) {sec : Option Nat} {good miss : Nat}
    (hlive : a.state = .armed ∨ a.state = .qualified) (hsec : sec.isSome) (hle : ∀ n ∈ sec, n ≤ 281474976710655)
    (hgood : good = 0 ∨ good = a.good) (hmiss : miss = a.miss ∨ a.state = .qualified ∧ miss ≤ 1) :
    AnchInRange { a with window := some w, s := sec, good := good, miss := miss } := by
  obtain ⟨-, hqualified, -, -, hg, hgstate, hm, hmstate, huref, -⟩ := h
  refine ⟨fun _ => hlive, fun hq => ⟨(hqualified hq).1, hsec, rfl, (hqualified hq).2.2.2⟩, fun _ => hsec, fun hu => ?_, ?_,
    fun hne => ?_, ?_, fun hne => ?_, huref, hle⟩
  · rcases hlive with hl | hl <;> simp [hl] at hu
  · simp only
    omega
  · refine ⟨(hgstate ?_).1, rfl⟩
    simp only at hne
    omega
  · simp only
    omega
  · simp only at hne
    rcases hmiss with hmiss | hmiss
    · exact hmstate (hmiss ▸ hne)
    · exact hmiss.1

theorem takeEarlyPulse_inRange {s : State} (h : AnchInRange s.anch) {w : AnchorWindow} (hw : s.anch.window = some w)
    (p : Pulse) : AnchInRange (s.takeEarlyPulse p w).anch := by
  have hlive : s.anch.state = .armed ∨ s.anch.state = .qualified := h.1 (by simp [hw])
  unfold State.takeEarlyPulse
  split
  next harmed =>
    have hcleared : AnchInRange { s.anch with good := 0 } := by
      obtain ⟨hwin, hq, ha, hu, -, -, hrest⟩ := h
      exact ⟨hwin, hq, ha, hu, Nat.zero_le _, fun hne => (hne rfl).elim, hrest⟩
    exact leadPulse_inRange hcleared harmed p _ _
  next harmed =>
    have hqualified : s.anch.state = .qualified := hlive.resolve_left harmed
    obtain ⟨-, hsome, -⟩ := h.2.1 hqualified
    split
    · exact h
    · split
      · exact loseAnchor_inRange h
      · exact windowCount_inRange h _ hlive hsome h.2.2.2.2.2.2.2.2.2 (.inr rfl) (.inr ⟨hqualified, by omega⟩)

theorem takePulse_inRange {s : State} (h : AnchInRange s.anch) (hlive : s.anch.state = .armed ∨ s.anch.state = .qualified)
    (p : Pulse) : AnchInRange (s.takePulse p).anch := by
  unfold State.takePulse
  split
  · split
    next harmed => exact leadPulse_inRange h harmed p _ _
    · exact h
  next w hw =>
    split
    · exact takeEarlyPulse_inRange h hw p
    · exact takeGoodPulse_inRange h hlive p

theorem endWindow_inRange {s : State} (h : AnchInRange s.anch) {w : AnchorWindow} (hw : s.anch.window = some w) :
    AnchInRange (s.endWindow w).anch := by
  have hlive : s.anch.state = .armed ∨ s.anch.state = .qualified := h.1 (by simp [hw])
  have hclosed {good miss : Nat} (hgood : good = 0 ∨ good = s.anch.good)
      (hmiss : miss = s.anch.miss ∨ s.anch.state = .qualified ∧ miss ≤ 1) :
      AnchInRange { closeWindow (anchorHalfTicks s) w s.anch with good := good, miss := miss } :=
    windowCount_inRange h _ hlive rfl (by simp [closeWindow, nextSecond_le]) hgood hmiss
  unfold State.endWindow
  dsimp only
  split
  · exact hclosed (.inr rfl) (.inl rfl)
  · split
    · exact hclosed (.inl rfl) (.inl rfl)
    next hqualified =>
      split
      · exact loseAnchor_inRange (hclosed (.inr rfl) (.inl rfl))
      · exact hclosed (.inr rfl) (.inr ⟨hqualified, by simp only [State.onAnch_anch, closeWindow]; omega⟩)
    · exact hclosed (.inr rfl) (.inl rfl)

/-! ## The commands of ANCH -/

theorem live_not_config {s : State} (h : AnchorStanding s) (hlive : s.anch.state = .armed ∨ s.anch.state = .qualified) :
    s.agu.sync ≠ .config := by
  intro hc
  rcases hlive with hl | hl <;> simp [((anchorStanding_iff s).1 h).2 hc] at hl

theorem pulse_keeps {s : State} (h : AnchorStanding s) : Leads AnchorStanding (execPulse s) := by
  obtain ⟨hin, hconfig⟩ := (anchorStanding_iff s).1 h
  have htaken (p : Pulse) (rest : List Pulse) (hlive : s.anch.state = .armed ∨ s.anch.state = .qualified) :
      AnchorStanding ((s.onAnch fun a => { a with pulses := rest }).takePulse p) := by
    have hframe := changesOnly_takePulse p (s.onAnch fun a => { a with pulses := rest })
    have hsync : _ = s.agu := hframe .agu (by simp)
    refine (anchorStanding_iff _).2 ⟨takePulse_inRange (s := s.onAnch fun a => { a with pulses := rest }) hin hlive p, ?_⟩
    rw [hsync]
    exact fun hc => (live_not_config h hlive hc).elim
  unfold execPulse
  split
  · exact (leads_next _ _).2 h
  next p rest _ =>
    dsimp only
    split
    · exact (leads_next _ _).2 h
    · exact (leads_next _ _).2 h
    next hstate =>
      split
      · exact (leads_next _ _).2 h
      · exact (leads_next _ _).2 (htaken p rest (.inl hstate))
    next hstate =>
      split
      · exact (leads_next _ _).2 h
      · exact (leads_next _ _).2 (htaken p rest (.inr hstate))

theorem windowEnd_keeps {s : State} (h : AnchorStanding s) : Leads AnchorStanding (execWindowEnd s) := by
  obtain ⟨hin, hconfig⟩ := (anchorStanding_iff s).1 h
  unfold execWindowEnd
  split
  · exact (leads_next _ _).2 h
  next w hw =>
    split
    · have hsync : _ = s.agu := changesOnly_endWindow w s .agu (by simp)
      refine (leads_next _ _).2 ((anchorStanding_iff _).2 ⟨endWindow_inRange hin hw, ?_⟩)
      rw [hsync]
      exact fun hc => (live_not_config h (hin.1 (by simp [hw])) hc).elim
    · exact (leads_next _ _).2 h

theorem takeAnchor_keeps (sec : BitVec 48) (uRef : BitVec 32) {s : State} (h : AnchorStanding s) :
    AnchorStanding (takeAnchor sec uRef s).1 := by
  unfold takeAnchor
  split
  · exact h
  next hsync =>
    refine (anchorStanding_iff _).2 ⟨?_, fun hc => (hsync hc).elim⟩
    refine ⟨nofun, nofun, fun _ => rfl, nofun, Nat.zero_le _, fun hne => (hne rfl).elim, Nat.zero_le _,
      fun hne => (hne rfl).elim, Nat.min_le_left _ _, fun n hn => ?_⟩
    cases hn
    exact Nat.min_le_left _ _

/-- Samples and the tolerance taken up stand in no clause. -/
theorem anchInRange_of_inputs {a b : Anch} (h : AnchInRange a)
    (hb : b = { a with pulses := b.pulses, prevRef := b.prevRef, onBackup := b.onBackup }) : AnchInRange b := by
  rw [hb]
  exact h

theorem anchInRange_reset : AnchInRange Anch.reset := by
  refine ⟨nofun, nofun, nofun, fun _ => ⟨rfl, rfl, rfl⟩, Nat.zero_le _, fun hne => (hne rfl).elim, Nat.zero_le _,
    fun hne => (hne rfl).elim, Nat.zero_le _, nofun⟩

theorem exec_anchorStanding (c : Instr) (s : State) (h : AnchorStanding s) : Leads AnchorStanding (exec c s) := by
  by_cases hc : ∀ b ∈ [Block.anch, .config], b ∉ writes c
  · exact anchorStanding_reads.exec_keeps hc h
  obtain ⟨hin, hconfig⟩ := (anchorStanding_iff s).1 h
  have hrequest {code : Byte} {act : State → State × Status × List Byte}
      (hact : ∀ t, AnchorStanding t → AnchorStanding (act t).1) : Leads AnchorStanding (.next (takeRequest code act s)) :=
    (leads_next _ _).2 (anchorStanding_reads.takeRequest_keeps (by simp) hact h)
  cases c
  case fullReset straps => exact (leads_next _ _).2 ((anchorStanding_iff _).2 ⟨anchInRange_reset, fun _ => rfl⟩)
  case restart straps =>
    exact hrequest fun t _ =>
      (anchorStanding_iff _).2 ⟨anchInRange_of_inputs anchInRange_reset rfl, fun _ => rfl⟩
  case tick caps ref =>
    have hticked := ((changesOnly_countTick s).mono (vs := [.tick, .clock, .terms]) (by simp)).trans
      ((changesOnly_advance s.countTick).mono (by simp))
    have hanch : s.countTick.advance.anch = s.anch := hticked .anch (by simp)
    have hagu : s.countTick.advance.agu = s.agu := hticked .agu (by simp)
    have hstanding : AnchorStanding s.countTick.advance := by
      rw [anchorStanding_iff, hanch, hagu]
      exact ⟨hin, hconfig⟩
    obtain ⟨hin', hconfig'⟩ := (anchorStanding_iff _).1 hstanding
    exact (leads_next _ _).2 ((anchorStanding_iff _).2 ⟨anchInRange_of_inputs hin' rfl, hconfig'⟩)
  case anchor sec uRef => exact hrequest fun t ht => takeAnchor_keeps sec uRef ht
  case pulse => exact pulse_keeps h
  case windowEnd => exact windowEnd_keeps h
  case fallbackNoticeAtAnch =>
    change Leads _ (execFallbackNoticeAtAnch s)
    unfold execFallbackNoticeAtAnch
    split
    · exact (leads_next _ _).2 h
    · exact (leads_next _ _).2 h
  case stepNoticeAtAnch =>
    change Leads _ (execStepNoticeAtAnch s)
    unfold execStepNoticeAtAnch
    split
    · exact (leads_next _ _).2 h
    · obtain ⟨hwindow, hqualified, harmed, hunarmed, hrest⟩ := hin
      refine (leads_next _ _).2 ((anchorStanding_iff _).2 ⟨⟨hwindow, fun hq => ?_, harmed, fun hu => ?_, hrest⟩, hconfig⟩)
      · simpa using hqualified hq
      · simpa using hunarmed hu
  all_goals exact absurd (by simp [writes]) hc

/-- Settles O7, by the standing of each record and that of ANCH, each kept by every command. -/
theorem peerTableKept : Obligations.PeerTableKept :=
  ⟨step_keeps (fun _ _ h => h) PeerLaws.exec_peerTableStanding, step_keeps (fun _ _ h => h) exec_anchorStanding⟩

end Sys2Proof.AnchorLaws
end

section
/-! The capture queue: what its operations make of entries and guards, and what every step keeps of it. -/

namespace Sys2Proof.CaptureLaws

open Sys2Proof.Machine Sys2Proof.Frames

/-! ## What CAPU holds by itself -/

/-- The ranges of a queued entry at this tick. -/
def EntryStanding (tick : Tick) (e : CapEntry) : Prop :=
  e.tick ≤ tick ∧ e.unc ≤ Config.unbounded ∧ e.followers ≤ 255 ∧ e.rebased ≤ 15 ∧ e.sync ≠ .config

/-- The limit, the order and the entries of the queue. -/
def QueueInRange (tick : Tick) (q : List CapEntry) : Prop :=
  q.length ≤ 64 ∧ q.Pairwise (fun e f => e.tick ≤ f.tick) ∧ ∀ e ∈ q, EntryStanding tick e

/-- A guard's link names a place of a queue of this length. -/
def LinkGood (n : Nat) (g : Option LineGuard) : Prop := ∀ x ∈ g, ∀ i ∈ x.link, i < n

/-- Every line's guard has a good link. -/
def LinksGood (n : Nat) (lines : Vector CapLine 8) : Prop := ∀ l : CapLineNo, LinkGood n lines[l].guard

theorem captureStanding_iff (s : State) :
    CaptureStanding s ↔
      QueueInRange s.osc.tick s.capu.queue ∧ LinksGood s.capu.queue.length s.capu.lines
        ∧ (s.agu.sync = .config → s.capu.queue = []) := by
  simp only [CaptureStanding, QueueInRange, EntryStanding, LinksGood, LinkGood, and_assoc]

theorem captureStanding_reads : Reads [.capu, .tick, .config] CaptureStanding := by
  intro s t hsame h
  have hcapu : t.capu = s.capu := hsame .capu (by simp)
  have htick : t.osc.tick = s.osc.tick := hsame .tick (by simp)
  have hconfig : t.agu.sync = .config → s.agu.sync = .config := hsame .config (by simp)
  rw [captureStanding_iff] at h ⊢
  rw [hcapu, htick]
  exact ⟨h.1, h.2.1, fun hc => h.2.2 (hconfig hc)⟩

/-! ## The queue's operations -/

theorem QueueInRange.later {tick later : Tick} {q : List CapEntry} (h : QueueInRange tick q) (hle : tick ≤ later) :
    QueueInRange later q := by
  obtain ⟨hlen, hord, hall⟩ := h
  refine ⟨hlen, hord, fun e he => ?_⟩
  obtain ⟨htick, hrest⟩ := hall e he
  exact ⟨htick.trans hle, hrest⟩

theorem queueInRange_nil (tick : Tick) : QueueInRange tick [] := ⟨Nat.zero_le _, .nil, nofun⟩

/-- A function that keeps an entry's tick and its ranges may be run on some of the entries. -/
theorem queueInRange_of_ticks {tick : Tick} {q q' : List CapEntry} (h : QueueInRange tick q)
    (hticks : q'.map CapEntry.tick = q.map CapEntry.tick) (hall : ∀ e ∈ q', EntryStanding tick e) : QueueInRange tick q' := by
  obtain ⟨hlen, hord, -⟩ := h
  refine ⟨?_, ?_, hall⟩
  · have hlengths := congrArg List.length hticks
    simp only [List.length_map] at hlengths
    omega
  · have hmapped : (q'.map CapEntry.tick).Pairwise (· ≤ ·) := by
      rw [hticks]
      exact List.pairwise_map.2 hord
    exact List.pairwise_map.1 hmapped

theorem changeEntry_ticks {f : CapEntry → CapEntry} (hf : ∀ e, (f e).tick = e.tick) (i : Nat) (q : List CapEntry) :
    (changeEntry f i q).map CapEntry.tick = q.map CapEntry.tick := by
  induction q generalizing i with
  | nil => cases i <;> rfl
  | cons e es ih => cases i <;> simp [changeEntry, hf, ih]

theorem mem_changeEntry {f : CapEntry → CapEntry} {i : Nat} {q : List CapEntry} {e : CapEntry} (h : e ∈ changeEntry f i q) :
    e ∈ q ∨ ∃ e' ∈ q, e = f e' := by
  induction q generalizing i with
  | nil => cases i <;> cases h
  | cons x xs ih =>
    cases i with
    | zero =>
      rcases List.mem_cons.1 h with rfl | hmem
      · exact .inr ⟨x, List.mem_cons_self, rfl⟩
      · exact .inl (List.mem_cons_of_mem x hmem)
    | succ i =>
      rcases List.mem_cons.1 h with rfl | hmem
      · exact .inl List.mem_cons_self
      · rcases ih hmem with hold | ⟨e', he', rfl⟩
        · exact .inl (List.mem_cons_of_mem x hold)
        · exact .inr ⟨e', List.mem_cons_of_mem x he', rfl⟩

theorem changeEntry_inRange {tick : Tick} {q : List CapEntry} (h : QueueInRange tick q) {f : CapEntry → CapEntry}
    (hf : ∀ e, (f e).tick = e.tick) (hstanding : ∀ e, EntryStanding tick e → EntryStanding tick (f e)) (i : Nat) :
    QueueInRange tick (changeEntry f i q) := by
  refine queueInRange_of_ticks h (changeEntry_ticks hf i q) fun e he => ?_
  rcases mem_changeEntry he with hold | ⟨e', he', rfl⟩
  · exact h.2.2 e hold
  · exact hstanding e' (h.2.2 e' he')

theorem addFollower_standing {tick : Tick} {e : CapEntry} (h : EntryStanding tick e) : EntryStanding tick (addFollower e) := by
  obtain ⟨htick, hunc, -, hrest⟩ := h
  exact ⟨htick, hunc, Nat.min_le_left _ _, hrest⟩

theorem rebaseEntry_standing {tick : Tick} {e : CapEntry} (h : EntryStanding tick e) (c : Int) :
    EntryStanding tick (rebaseEntry c e) := by
  obtain ⟨htick, hunc, hfollowers, -, hsync⟩ := h
  exact ⟨htick, hunc, hfollowers, Nat.min_le_left _ _, hsync⟩

theorem append_inRange {tick : Tick} {q : List CapEntry} (h : QueueInRange tick q) {e : CapEntry} (hroom : q.length < 64)
    (he : EntryStanding tick e) (hnow : e.tick = tick) : QueueInRange tick (q ++ [e]) := by
  obtain ⟨-, hord, hall⟩ := h
  refine ⟨by simpa using hroom, ?_, fun x hx => ?_⟩
  · refine List.pairwise_append.2 ⟨hord, List.pairwise_singleton _ _, fun x hx y hy => ?_⟩
    rw [List.mem_singleton.1 hy, hnow]
    exact (hall x hx).1
  · rcases List.mem_append.1 hx with hold | hnew
    · exact hall x hold
    · rwa [List.mem_singleton.1 hnew]

/-! ## The guards -/

theorem linksGood_setLine {n : Nat} {lines : Vector CapLine 8} (h : LinksGood n lines) {l : CapLineNo} {x : CapLine}
    (hx : LinkGood n x.guard) : LinksGood n (lines.set l x) := by
  intro k
  have hk := h k
  by_cases heq : l = k
  · subst heq
    simpa using hx
  · have hval : l.val ≠ k.val := Fin.val_ne_of_ne heq
    simpa [Vector.getElem_set, hval] using hk

theorem LinkGood.longer {n m : Nat} {g : Option LineGuard} (h : LinkGood n g) (hle : n ≤ m) : LinkGood m g :=
  fun x hx i hi => (h x hx i hi).trans_le hle

theorem openedGuard_good {n place : Nat} (hplace : place < n) (tick : Tick) (setup : LineSetup) :
    LinkGood n (openedGuard tick setup place) := by
  intro g hg i hi
  unfold openedGuard at hg
  split at hg
  · cases hg
  · cases hg
    cases hi
    exact hplace

theorem unlinkHead_good {n : Nat} {g : Option LineGuard} (h : LinkGood (n + 1) g) : LinkGood n (g.map unlinkHead) := by
  intro x hx i hi
  obtain ⟨y, hy, rfl⟩ := Option.map_eq_some_iff.1 hx
  have hlink := h y hy
  unfold unlinkHead at hi
  dsimp only at hi
  split at hi
  · cases hi
  · cases hi
  next j hj =>
    cases hi
    have := hlink (i + 1) hj
    omega

/-! ## The commands of CAPU -/

/-- Outside CONFIG the queue need not be empty. -/
theorem captureStanding_of_live {t : State} (hsync : t.agu.sync ≠ .config) (hq : QueueInRange t.osc.tick t.capu.queue)
    (hl : LinksGood t.capu.queue.length t.capu.lines) : CaptureStanding t :=
  (captureStanding_iff t).2 ⟨hq, hl, fun hc => (hsync hc).elim⟩

theorem newEntry_standing {s : State} (hsync : s.agu.sync ≠ .config) (l : CapLineNo) (e : Edge) :
    EntryStanding s.osc.tick (newEntry s l e) :=
  ⟨le_rfl, satUnc_le _, Nat.zero_le _, Nat.zero_le _, hsync⟩

theorem takeEdge_keeps {s : State} (h : CaptureStanding s) (l : CapLineNo) (e : Edge) : CaptureStanding (s.takeEdge l e) := by
  obtain ⟨hq, hl, hempty⟩ := (captureStanding_iff s).1 h
  unfold State.takeEdge
  split
  · exact (captureStanding_iff _).2 ⟨hq, linksGood_setLine hl (hl l), hempty⟩
  next hsync =>
    split
    · have hlines : LinksGood s.capu.queue.length (s.capu.lines.set l { s.capu.lines[l] with found := none }) :=
        linksGood_setLine hl (hl l)
      refine captureStanding_of_live hsync ?_ ?_
      all_goals
        simp only [State.followerEdge, State.onCapu_capu, State.onCapu_osc, Capu.setLine]
        cases s.capu.lines[l].guard.bind LineGuard.link
      · exact hq
      · exact changeEntry_inRange hq (f := addFollower) (fun _ => rfl) (fun _ => addFollower_standing) _
      · exact hlines
      · rw [changeEntry_length]
        exact hlines
    · split
      next hroom =>
        refine captureStanding_of_live hsync (append_inRange hq hroom (newEntry_standing hsync l e) rfl) ?_
        simp only [State.storeCapture, State.onCapu_capu, Capu.setLine, List.length_append, List.length_singleton]
        exact linksGood_setLine (fun k => (hl k).longer (Nat.le_succ _)) (openedGuard_good (Nat.lt_succ_self _) _ _)
      next hfull =>
        refine captureStanding_of_live hsync
          (changeEntry_inRange hq (f := addFollower) (fun _ => rfl) (fun _ => addFollower_standing) _) ?_
        simp only [State.overflowCapture, State.sendWarn_capu, State.onCapu_capu, Capu.setLine, changeEntry_length]
        have hlast : s.capu.queue.length - 1 < s.capu.queue.length := by
          simp only [queueLimit] at hfull
          omega
        exact linksGood_setLine hl (openedGuard_good hlast _ _)

/-- The queue keeps its length, and the lines stay. -/
theorem captureStanding_queue {s t : State} (h : CaptureStanding s) (hlines : t.capu.lines = s.capu.lines)
    (hlen : t.capu.queue.length = s.capu.queue.length) (hq : QueueInRange s.osc.tick t.capu.queue)
    (htick : t.osc.tick = s.osc.tick) (hagu : t.agu = s.agu) : CaptureStanding t := by
  obtain ⟨-, hl, hempty⟩ := (captureStanding_iff s).1 h
  rw [captureStanding_iff, hlines, hlen, htick, hagu]
  refine ⟨hq, hl, fun hc => ?_⟩
  rw [← List.length_eq_zero_iff, hlen, hempty hc, List.length_nil]

theorem stepNoticeAtCapu_keeps {s : State} (h : CaptureStanding s) : Leads CaptureStanding (execStepNoticeAtCapu s) := by
  obtain ⟨hq, -, -⟩ := (captureStanding_iff s).1 h
  unfold execStepNoticeAtCapu
  split
  · exact (leads_next _ _).2 h
  next n rest _ =>
    split
    · exact (leads_next _ _).2 h
    · refine (leads_next _ _).2 (captureStanding_queue h rfl (List.length_map _) ?_ rfl rfl)
      refine queueInRange_of_ticks hq (List.map_map ..) fun e he => ?_
      obtain ⟨e', he', rfl⟩ := List.mem_map.1 he
      exact rebaseEntry_standing (hq.2.2 e' he') n.c

theorem takeTake_keeps {s : State} (h : CaptureStanding s) : CaptureStanding (takeTake s).1 := by
  obtain ⟨⟨hlen, hord, hall⟩, hl, hempty⟩ := (captureStanding_iff s).1 h
  unfold takeTake
  split
  · exact h
  next e rest hqueue =>
    rw [hqueue] at hlen hord hall hl hempty
    split
    · exact h
    · refine (captureStanding_iff _).2 ⟨⟨(Nat.le_succ _).trans hlen, hord.of_cons,
        fun x hx => hall x (List.mem_cons_of_mem e hx)⟩, fun l => ?_, fun hc => (List.cons_ne_nil _ _ (hempty hc)).elim⟩
      have hgood := unlinkHead_good (hl l)
      simpa [State.removeHead] using hgood

theorem tick_keeps (caps : BitVec 8) (ref : Bool) {s : State} (hcount : s.osc.tick + 1 < 2 ^ 64) (h : CaptureStanding s) :
    Leads CaptureStanding (exec (.tick caps ref) s) := by
  obtain ⟨hq, hl, hempty⟩ := (captureStanding_iff s).1 h
  rw [ClockMoves.tick_eq caps ref hcount]
  have hadvance := changesOnly_advance { s with osc := { s.osc with tick := s.osc.tick + 1 } }
  have hcapu : _ = s.capu := hadvance .capu (by simp)
  have hagu : _ = s.agu := hadvance .agu (by simp)
  have htick : _ = s.osc.tick + 1 := hadvance .tick (by simp)
  rw [leads_next, captureStanding_iff]
  simp only [State.sampleInputs, State.onAnch_capu, State.onCapu_capu, State.onAnch_osc, State.onCapu_osc, State.onAnch_agu,
    State.onCapu_agu, sampleCaptureLines, hcapu, hagu, htick]
  refine ⟨hq.later (Nat.le_succ _), fun l => ?_, hempty⟩
  have hgood := hl l
  simpa using hgood

theorem linksGood_unguarded {n : Nat} {lines : Vector CapLine 8} (h : ∀ l : CapLineNo, lines[l].guard = none) :
    LinksGood n lines := by
  intro l g hg
  rw [h l] at hg
  cases hg

theorem exec_captureStanding (c : Instr) (s : State) (hcount : s.osc.tick + 1 < 2 ^ 64) (h : CaptureStanding s) :
    Leads CaptureStanding (exec c s) := by
  by_cases hc : ∀ b ∈ [Block.capu, .tick, .config], b ∉ writes c
  · exact captureStanding_reads.exec_keeps hc h
  obtain ⟨hq, hl, hempty⟩ := (captureStanding_iff s).1 h
  have hrequest {code : Byte} {act : State → State × Status × List Byte}
      (hact : ∀ t, CaptureStanding t → CaptureStanding (act t).1) : Leads CaptureStanding (.next (takeRequest code act s)) :=
    (leads_next _ _).2 (captureStanding_reads.takeRequest_keeps (by simp) hact h)
  cases c
  case fullReset straps =>
    exact (leads_next _ _).2 ((captureStanding_iff _).2
      ⟨queueInRange_nil _, linksGood_unguarded fun l => by simp [State.resetWith, Capu.reset, CapLine.reset], fun _ => rfl⟩)
  case restart straps =>
    exact hrequest fun t _ => (captureStanding_iff _).2
      ⟨queueInRange_nil _, linksGood_unguarded fun l => by simp [takeRestart, restartAll, restartCapu], fun _ => rfl⟩
  case tick caps ref => exact tick_keeps caps ref hcount h
  case edgeOfInterest =>
    change Leads _ (execEdgeOfInterest s)
    unfold execEdgeOfInterest
    split
    · exact (leads_next _ _).2 h
    · split
      · exact (leads_next _ _).2 h
      · exact (leads_next _ _).2 (takeEdge_keeps h _ _)
  case guardClose l =>
    change Leads _ (execGuardClose l s)
    unfold execGuardClose
    split
    · exact (leads_next _ _).2 h
    · split
      · exact (leads_next _ _).2 ((captureStanding_iff _).2 ⟨hq, linksGood_setLine hl nofun, hempty⟩)
      · exact (leads_next _ _).2 h
  case settle i =>
    change Leads _ (execSettle i s)
    unfold execSettle
    split
    · exact (leads_next _ _).2 h
    · split
      · exact (leads_next _ _).2 (captureStanding_queue h rfl (changeEntry_length _ _ _)
          (changeEntry_inRange hq (f := settleEntry) (fun _ => rfl) (fun _ he => he) i) rfl rfl)
      · exact (leads_next _ _).2 h
  case overdue i =>
    change Leads _ (execOverdue i s)
    unfold execOverdue
    split
    · exact (leads_next _ _).2 h
    · split
      · exact (leads_next _ _).2 (captureStanding_queue h rfl (changeEntry_length _ _ _)
          (changeEntry_inRange hq (f := overdueEntry) (fun _ => rfl) (fun _ he => he) i) rfl rfl)
      · exact (leads_next _ _).2 h
  case stepNoticeAtCapu => exact stepNoticeAtCapu_keeps h
  case take => exact hrequest fun t ht => takeTake_keeps ht
  case label line value =>
    refine hrequest fun t ht => ?_
    unfold takeLabel
    split
    · exact ht
    next l _ =>
      obtain ⟨hq', hl', hempty'⟩ := (captureStanding_iff t).1 ht
      exact (captureStanding_iff _).2 ⟨hq', linksGood_setLine hl' (hl' l), hempty'⟩
  all_goals exact absurd (by simp [writes]) hc

/-- Settles O8. -/
theorem captureQueueKept : Obligations.CaptureQueueKept := by
  intro s t h hcount hstep
  exact step_keeps_if (K := fun u => u.osc.tick + 1 < 2 ^ 64) (fun _ _ h => h) (fun _ _ h => h) exec_captureStanding h hcount hstep

end Sys2Proof.CaptureLaws
end

section
/-! The warning list: what a raise and a removal make of it, and what every step keeps of it. -/

namespace Sys2Proof.WarningLaws

open Sys2Proof.Machine Sys2Proof.Frames

/-! ## A raise and a removal (R103, R104) -/

theorem raiseWarning_dmon (w : Warning) (s : State) :
    (s.raiseWarning w).dmon = { s.dmon with warnings := (s.raiseWarning w).dmon.warnings } := by
  unfold State.raiseWarning
  split <;> rfl

theorem removeWarning_dmon (k : WarningKind) (subj : Subject) (s : State) :
    (s.removeWarning k subj).dmon = { s.dmon with warnings := (s.removeWarning k subj).dmon.warnings } := by
  unfold State.removeWarning
  split <;> rfl

theorem raiseWarning_station (w : Warning) (s : State) : (s.raiseWarning w).svc.station = s.svc.station :=
  (changesOnly_raiseWarning w s .settings (by simp)).1

theorem removeWarning_station (k : WarningKind) (subj : Subject) (s : State) :
    (s.removeWarning k subj).svc.station = s.svc.station :=
  (changesOnly_removeWarning k subj s .settings (by simp)).1

/-- Is there a warning of this kind and station? -/
def Warned (ws : List Warning) (k : WarningKind) (subj : Subject) : Prop := ∃ w ∈ ws, w.kind = k ∧ w.subject = subj

theorem mem_insertWarning (w x : Warning) (ws : List Warning) : x ∈ insertWarning w ws ↔ x = w ∨ x ∈ ws := by
  induction ws with
  | nil => simp [insertWarning]
  | cons y ys ih =>
    unfold insertWarning
    split
    · simp
    · simp only [List.mem_cons, ih]
      tauto

theorem raiseWarning_present {w : Warning} {s : State} (h : Warned s.dmon.warnings w.kind w.subject) : s.raiseWarning w = s := by
  rw [State.raiseWarning, if_pos ((any_isFor_iff _ _ _).2 h)]

theorem raiseWarning_inserts {w : Warning} {s : State} (h : ¬Warned s.dmon.warnings w.kind w.subject) :
    (s.raiseWarning w).dmon.warnings = insertWarning w s.dmon.warnings := by
  rw [State.raiseWarning, if_neg (mt (any_isFor_iff _ _ _).1 h)]
  rfl

theorem warned_raiseWarning (w : Warning) (s : State) (k : WarningKind) (subj : Subject) :
    Warned (s.raiseWarning w).dmon.warnings k subj ↔ Warned s.dmon.warnings k subj ∨ w.kind = k ∧ w.subject = subj := by
  by_cases h : Warned s.dmon.warnings w.kind w.subject
  · rw [raiseWarning_present h]
    refine (or_iff_left_of_imp ?_).symm
    rintro ⟨rfl, rfl⟩
    exact h
  · rw [raiseWarning_inserts h]
    simp only [Warned, mem_insertWarning, or_and_right, exists_or, exists_eq_left]
    exact or_comm

theorem removeWarning_warnings (k : WarningKind) (subj : Subject) (s : State) :
    (s.removeWarning k subj).dmon.warnings = s.dmon.warnings.filter fun w => !(Warning.isFor k subj w) := by
  unfold State.removeWarning
  split
  · rfl
  next h =>
    symm
    rw [List.filter_eq_self]
    intro w hw
    cases hfor : Warning.isFor k subj w with
    | true => exact (h (List.any_eq_true.2 ⟨w, hw, hfor⟩)).elim
    | false => rfl

theorem warned_removeWarning (k : WarningKind) (subj : Subject) (s : State) (k' : WarningKind) (subj' : Subject) :
    Warned (s.removeWarning k subj).dmon.warnings k' subj' ↔ Warned s.dmon.warnings k' subj' ∧ ¬(k = k' ∧ subj = subj') := by
  rw [removeWarning_warnings]
  constructor
  · rintro ⟨w, hw, rfl, rfl⟩
    obtain ⟨hmem, hnot⟩ := List.mem_filter.1 hw
    refine ⟨⟨w, hmem, rfl, rfl⟩, ?_⟩
    rintro ⟨rfl, rfl⟩
    simp [Warning.isFor] at hnot
  · rintro ⟨⟨w, hmem, rfl, rfl⟩, hnot⟩
    refine ⟨w, List.mem_filter.2 ⟨hmem, ?_⟩, rfl, rfl⟩
    simp only [Warning.isFor, Bool.not_eq_true', Bool.and_eq_false_imp, decide_eq_true_eq, decide_eq_false_iff_not]
    exact fun hk hs => hnot ⟨hk.symm, hs.symm⟩

/-! ## The list in order, without repeats, each warning as its kind has it (R102) -/

/-- What one warning of a station's list is: its subject and value as its kind has them. -/
def WarningGood (own : Station) (w : Warning) : Prop :=
  (w.kind = .peerDrifting ↔ w.subject ≠ .own) ∧ w.subject ≠ .peer own
    ∧ (w.kind ≠ .peerDrifting → w.kind ≠ .selfDrifting → w.value = 0)

/-- The whole list. -/
def WarningListGood (own : Station) (ws : List Warning) : Prop :=
  ws.Pairwise (fun v w => v.time ≤ w.time) ∧ ws.Pairwise (fun v w => v.kind ≠ w.kind ∨ v.subject ≠ w.subject)
    ∧ ∀ w ∈ ws, WarningGood own w

theorem warningsStanding_iff (s : State) : WarningsStanding s ↔ WarningListGood s.svc.station s.dmon.warnings := Iff.rfl

theorem WarningListGood.sublist {own : Station} {ws vs : List Warning} (h : WarningListGood own ws) (hsub : vs.Sublist ws) :
    WarningListGood own vs := by
  obtain ⟨hord, hdistinct, hall⟩ := h
  exact ⟨hord.sublist hsub, hdistinct.sublist hsub, fun w hw => hall w (hsub.subset hw)⟩

theorem insertWarning_good {own : Station} {ws : List Warning} (h : WarningListGood own ws) {w : Warning}
    (hw : WarningGood own w) (hnew : ¬Warned ws w.kind w.subject) : WarningListGood own (insertWarning w ws) := by
  obtain ⟨hord, hdistinct, hall⟩ := h
  obtain ⟨a, b, rfl, hbefore, hafter, hinsert⟩ := insertWarning_split w ws hord
  rw [hinsert]
  refine ⟨?_, ?_, fun x hx => ?_⟩
  · obtain ⟨ha, hb, hab⟩ := List.pairwise_append.1 hord
    refine List.pairwise_append.2 ⟨ha, List.pairwise_cons.2 ⟨fun x hx => (hafter x hx).le, hb⟩, fun x hx y hy => ?_⟩
    rcases List.mem_cons.1 hy with rfl | hy
    · exact hbefore x hx
    · exact hab x hx y hy
  · have hsymm : ∀ {x y : Warning}, x.kind ≠ y.kind ∨ x.subject ≠ y.subject → y.kind ≠ x.kind ∨ y.subject ≠ x.subject :=
      fun hxy => hxy.imp Ne.symm Ne.symm
    refine (List.perm_middle.pairwise_iff hsymm).2 (List.pairwise_cons.2 ⟨fun x hx => ?_, hdistinct⟩)
    by_contra hsame
    obtain ⟨hkind, hsubject⟩ := not_or.1 hsame
    exact hnew ⟨x, hx, (not_not.1 hkind).symm, (not_not.1 hsubject).symm⟩
  · rcases List.mem_cons.1 (List.perm_middle.subset hx) with rfl | hx
    · exact hw
    · exact hall x hx

theorem raiseWarning_keeps {s : State} (h : WarningsStanding s) {w : Warning} (hw : WarningGood s.svc.station w) :
    WarningsStanding (s.raiseWarning w) := by
  by_cases hpresent : Warned s.dmon.warnings w.kind w.subject
  · rwa [raiseWarning_present hpresent]
  · rw [warningsStanding_iff, raiseWarning_station, raiseWarning_inserts hpresent]
    exact insertWarning_good h hw hpresent

theorem removeWarning_keeps {s : State} (h : WarningsStanding s) (k : WarningKind) (subj : Subject) :
    WarningsStanding (s.removeWarning k subj) := by
  rw [warningsStanding_iff, removeWarning_station, removeWarning_warnings]
  exact WarningListGood.sublist h List.filter_sublist

theorem warningGood_own {own : Station} {w : Warning} (hsubject : w.subject = .own) (hkind : w.kind ≠ .peerDrifting)
    (hvalue : w.kind ≠ .selfDrifting → w.value = 0) : WarningGood own w := by
  refine ⟨iff_of_false hkind (fun hne => hne hsubject), ?_, fun _ => hvalue⟩
  rw [hsubject]
  nofun

theorem noticeWarning_ne (k : NoticeKind) : noticeWarning k ≠ .peerDrifting ∧ noticeWarning k ≠ .selfDrifting := by
  cases k <;> exact ⟨nofun, nofun⟩

/-! ## A review keeps the list (R95, R96, R98) -/

theorem warnVerdict_keeps {s : State} (h : WarningsStanding s) {k : WarningKind} {subj : Subject} {d : Int}
    (hgood : ∀ time, WarningGood s.svc.station { kind := k, subject := subj, time := time, value := d }) (v v' : Verdict) :
    WarningsStanding (s.warnVerdict k subj v v' d) := by
  unfold State.warnVerdict
  split
  · exact h
  split
  · exact raiseWarning_keeps h (hgood _)
  split
  · exact removeWarning_keeps h k subj
  · exact h

theorem judgePeer_keeps {s : State} (h : WarningsStanding s) (ref : Int) {rate : Option Int} {p : Station}
    (hp : rate.isSome → p ≠ s.svc.station) : WarningsStanding (s.judgePeer ref rate p) := by
  cases rate with
  | none => exact h
  | some rho =>
    refine warnVerdict_keeps (s := s.setDrift p _) h (subj := .peer p)
      (fun time => ⟨iff_of_true rfl (by simp), ?_, fun hne => (hne rfl).elim⟩) _ _
    simpa using hp rfl

theorem reviewRate_not_own {s : State} {p : Station} (h : (reviewRate s p).isSome) : p ≠ s.svc.station := by
  rintro rfl
  simp [reviewRate] at h

theorem judgePeer_station (ref : Int) (rate : Option Int) (p : Station) (s : State) :
    (s.judgePeer ref rate p).svc.station = s.svc.station :=
  (changesOnly_judgePeer ref rate p s .settings (by simp)).1

theorem foldl_judgePeer_keeps {own : Station} (ref : Int) {rate : Station → Option Int}
    (hrate : ∀ p, (rate p).isSome → p ≠ own) (ps : List Station) {s : State} (hown : s.svc.station = own)
    (h : WarningsStanding s) :
    WarningsStanding (ps.foldl (fun t p => t.judgePeer ref (rate p) p) s)
      ∧ (ps.foldl (fun t p => t.judgePeer ref (rate p) p) s).svc.station = own := by
  induction ps generalizing s with
  | nil => exact ⟨h, hown⟩
  | cons p ps ih =>
    exact ih ((judgePeer_station _ _ _ _).trans hown) (judgePeer_keeps h ref fun hp => hown ▸ hrate p hp)

theorem warningsStanding_onDmon {s : State} (h : WarningsStanding s) {f : Dmon → Dmon}
    (hf : (f s.dmon).warnings = s.dmon.warnings) : WarningsStanding (s.onDmon f) := by
  rw [warningsStanding_iff, State.onDmon_dmon, hf, State.onDmon_svc]
  exact h

theorem judgeAll_keeps {s : State} (h : WarningsStanding s) (ref : Int) : WarningsStanding (judgeAll ref s) := by
  obtain ⟨hjudged, -⟩ := foldl_judgePeer_keeps ref (fun p hp => reviewRate_not_own (p := p) hp) stations rfl h
  unfold judgeAll
  generalize stations.foldl (fun t p => t.judgePeer ref (reviewRate s p) p) s = t at hjudged ⊢
  exact warnVerdict_keeps (warningsStanding_onDmon hjudged rfl) (k := .selfDrifting) (subj := .own)
    (fun time => warningGood_own rfl (by simp) fun hne => (hne rfl).elim) _ _

/-! ## The commands of DMON, and those that set the own number -/

theorem warningsStanding_reads : Reads [.dmon, .settings] WarningsStanding := by
  intro s t hsame h
  have hdmon : t.dmon = s.dmon := hsame .dmon (by simp)
  obtain ⟨hstation, -⟩ : Block.Same s t .settings := hsame .settings (by simp)
  rw [warningsStanding_iff, hdmon, hstation]
  exact h

theorem warningListGood_nil (own : Station) : WarningListGood own [] := ⟨.nil, .nil, nofun⟩

theorem raises_keep {s : State} (c : Instr) (hc : writes c = [.dmon]) (h : WarningsStanding s) :
    Leads WarningsStanding (exec c s) := by
  cases c
  case fallbackNoticeAtDmon =>
    change Leads _ (execFallbackNoticeAtDmon s)
    unfold execFallbackNoticeAtDmon
    split
    · exact (leads_next _ _).2 h
    next time rest _ =>
      exact (leads_next _ _).2 (raiseWarning_keeps (s := s.onNet fun n => { n with fallbackDmon := rest }) h
        (warningGood_own rfl nofun fun _ => rfl))
  case duplicateNotice =>
    change Leads _ (execDuplicateNotice s)
    unfold execDuplicateNotice
    split
    · exact (leads_next _ _).2 h
    next time rest _ =>
      exact (leads_next _ _).2 (raiseWarning_keeps (s := s.onNet fun n => { n with duplicates := rest }) h
        (warningGood_own rfl nofun fun _ => rfl))
  case raiseNotice k =>
    change Leads _ (execRaiseNotice k s)
    unfold execRaiseNotice
    split
    next time rest _ =>
      exact (leads_next _ _).2 (raiseWarning_keeps (s := s.onNet fun n => { n with warn := rest }) h
        (warningGood_own rfl (noticeWarning_ne k).1 fun _ => rfl))
    · exact (leads_next _ _).2 h
  case removalNotice k =>
    change Leads _ (execRemovalNotice k s)
    unfold execRemovalNotice
    split
    next rest _ =>
      exact (leads_next _ _).2 (removeWarning_keeps (s := s.onNet fun n => { n with warn := rest }) h _ _)
    · exact (leads_next _ _).2 h
  case stepNoticeAtDmon =>
    change Leads _ (execStepNoticeAtDmon s)
    unfold execStepNoticeAtDmon
    split
    · exact (leads_next _ _).2 h
    next c rest _ =>
      exact (leads_next _ _).2 (warningsStanding_onDmon (s := s.onNet fun n => { n with stepDmon := rest }) h rfl)
  all_goals exact absurd hc (by simp [writes])

theorem review_keeps {s : State} (h : WarningsStanding s) : Leads WarningsStanding (execReview s) := by
  unfold execReview
  split
  · split
    · exact (leads_next _ _).2 (warningsStanding_onDmon h rfl)
    · have hjudged := judgeAll_keeps h (referenceRate (reviewRates s))
      rw [leads_next]
      dsimp only [conclusiveReview]
      generalize judgeAll (referenceRate (reviewRates s)) s = t at hjudged ⊢
      rw [warningsStanding_iff, State.post_dmon, State.post_svc]
      exact warningsStanding_onDmon hjudged (by simp only [clearFresh])
  · exact (leads_next _ _).2 h

/-- R88, R90: the notices of a window touch no warning. -/
theorem windowCommands_keep {s : State} (c : Instr) (hc : writes c = [.dmon, .toDmon]) (h : WarningsStanding s) :
    Leads WarningsStanding (exec c s) := by
  have hset (rest : List PeerNotice) (p : Station) (r : DriftRecord) :
      WarningsStanding ((s.onNet fun n => { n with toDmon := rest }).setDrift p r) := by
    rw [warningsStanding_iff, State.setDrift_dmon, State.setDrift_svc]
    exact h
  cases c
  case sample =>
    change Leads _ (execSample s)
    unfold execSample
    split
    · split
      · exact (leads_next _ _).2 h
      · exact (leads_next _ _).2 (hset _ _ _)
    · exact (leads_next _ _).2 h
  case leaveNotice =>
    change Leads _ (execLeaveNotice s)
    unfold execLeaveNotice
    split
    · exact (leads_next _ _).2 (hset _ _ _)
    · exact (leads_next _ _).2 h
  case windowNotice =>
    change Leads _ (execWindowNotice s)
    unfold execWindowNotice
    split
    · exact (leads_next _ _).2 (hset _ _ _)
    · exact (leads_next _ _).2 h
  all_goals exact absurd hc (by simp [writes])

theorem exec_warningsStanding (c : Instr) (s : State) (h : WarningsStanding s) : Leads WarningsStanding (exec c s) := by
  by_cases hc : ∀ b ∈ [Block.dmon, .settings], b ∉ writes c
  · exact warningsStanding_reads.exec_keeps hc h
  by_cases hraises : writes c = [.dmon]
  · exact raises_keep c hraises h
  by_cases hwindow : writes c = [.dmon, .toDmon]
  · exact windowCommands_keep c hwindow h
  have hrequest {code : Byte} {act : State → State × Status × List Byte}
      (hact : ∀ t, WarningsStanding t → WarningsStanding (act t).1) : Leads WarningsStanding (.next (takeRequest code act s)) :=
    (leads_next _ _).2 (warningsStanding_reads.takeRequest_keeps (by simp) hact h)
  cases c
  case fullReset straps => exact (leads_next _ _).2 (warningListGood_nil _)
  case restart straps =>
    refine hrequest fun t ht => ?_
    obtain ⟨hord, hdistinct, hall⟩ := WarningListGood.sublist ht (List.filter_sublist (p := fun w => w.kind = .oscFallback))
    refine ⟨hord, hdistinct, fun w hw => ?_⟩
    have hkind : w.kind = .oscFallback := by simpa using (List.mem_filter.1 hw).2
    obtain ⟨hsubject, -, hvalue⟩ := hall w hw
    refine warningGood_own ?_ (by simp [hkind]) fun hself => hvalue (by simp [hkind]) hself
    by_contra hne
    simp [hkind] at hsubject
    exact hne hsubject
  case configure items =>
    refine hrequest fun t ht => ?_
    unfold takeConfigure
    split
    · exact ht
    · split
      · exact ht
      · split <;> exact ht
  case start =>
    refine hrequest fun t ht => ?_
    unfold takeStart
    split <;> exact ht
  case review => exact review_keeps h
  case fallbackNoticeAtDmon | duplicateNotice | raiseNotice | removalNotice | stepNoticeAtDmon =>
    exact absurd (by simp [writes]) hraises
  case sample | leaveNotice | windowNotice => exact absurd (by simp [writes]) hwindow
  all_goals exact absurd (by simp [writes]) hc

/-! ## At most 38 warnings -/

/-- The kinds and subjects a warning can have: seven kinds of the own station, and the drift of each peer. -/
def warningKeys (own : Station) : List (WarningKind × Subject) :=
  ([.selfDrifting, .selfAccused, .noAgreement, .anchorLost, .overflow, .duplicateNumber, .oscFallback].map fun k => (k, .own))
    ++ (stations.filter (· ≠ own)).map fun p => (.peerDrifting, .peer p)

theorem warningKeys_length (own : Station) : (warningKeys own).length = 38 := by
  have hpeers : (stations.filter (· ≠ own)).length = 31 := by decide +revert
  rw [warningKeys, List.length_append, List.length_map, List.length_map, hpeers]
  rfl

theorem warningGood_mem_keys {own : Station} {w : Warning} (h : WarningGood own w) : (w.kind, w.subject) ∈ warningKeys own := by
  obtain ⟨hkind, hnotown, -⟩ := h
  unfold warningKeys
  cases hsubject : w.subject with
  | own =>
    rw [hsubject] at hkind
    refine List.mem_append_left _ (List.mem_map.2 ⟨w.kind, ?_, rfl⟩)
    cases hk : w.kind <;> simp [hk] at hkind ⊢
  | peer p =>
    rw [hsubject] at hkind hnotown
    rw [hkind.2 nofun]
    refine List.mem_append_right _ (List.mem_map.2 ⟨p, List.mem_filter.2 ⟨mem_stations p, ?_⟩, rfl⟩)
    simpa using hnotown

theorem warnings_length_le {s : State} (h : WarningsStanding s) : s.dmon.warnings.length ≤ 38 := by
  obtain ⟨-, hdistinct, hall⟩ := h
  have hnodup : (s.dmon.warnings.map fun w => (w.kind, w.subject)).Nodup := by
    refine List.pairwise_map.2 (hdistinct.imp fun hne hsame => ?_)
    rw [Prod.mk.injEq] at hsame
    exact hne.elim (· hsame.1) (· hsame.2)
  have hsub : (s.dmon.warnings.map fun w => (w.kind, w.subject)) ⊆ warningKeys s.svc.station := by
    intro key hkey
    obtain ⟨w, hw, rfl⟩ := List.mem_map.1 hkey
    exact warningGood_mem_keys (hall w hw)
  have hle := (hnodup.subperm hsub).length_le
  rwa [List.length_map, warningKeys_length] at hle

end Sys2Proof.WarningLaws
end

section
/-! The drift records: what samples, notices and reviews make of them, and what every step keeps of them. -/

namespace Sys2Proof.DriftLaws

open Sys2Proof.Machine Sys2Proof.Frames Sys2Proof.WarningLaws

/-! ## What DMON's drift records hold -/

/-- The limits of one record. -/
def RecordInRange (r : DriftRecord) : Prop :=
  r.window.length ≤ 7 ∧ (∀ v ∈ r.rate, v.natAbs ≤ 10000000) ∧ (r.fresh = true → r.rate.isSome) ∧ r.d.natAbs ≤ 20000000

/-- The warning of this kind and station stands exactly while the verdict is DRIFTING or EASING. -/
def VerdictWarned (ws : List Warning) (k : WarningKind) (subj : Subject) (v : Verdict) : Prop :=
  v = .drifting ∨ v = .easing ↔ Warned ws k subj

/-- `DriftStanding` but for the review record. -/
def DriftInRange (m : Dmon) : Prop :=
  (∀ p : Station, RecordInRange m.drift[p] ∧ VerdictWarned m.warnings .peerDrifting (.peer p) m.drift[p].verdict)
    ∧ m.ownD.natAbs ≤ 10000000 ∧ VerdictWarned m.warnings .selfDrifting .own m.ownVerdict

theorem driftStanding_iff (s : State) :
    DriftStanding s ↔ DriftInRange s.dmon ∧ (s.dmon.review.outcome = .conclusive ↔ s.dmon.review.ref.isSome) := by
  simp only [DriftStanding, DriftInRange, RecordInRange, VerdictWarned, Warned, and_assoc]

theorem driftStanding_reads : Reads [.dmon] DriftStanding := by
  intro s t hsame h
  have hdmon : t.dmon = s.dmon := hsame .dmon (by simp)
  rw [driftStanding_iff, hdmon]
  exact (driftStanding_iff s).1 h

/-! ## Records (R88 to R91) -/

theorem rateOf_natAbs_le (w : List (Tick × Int)) : (rateOf w).natAbs ≤ 10000000 := satAbs_natAbs_le 10000000 _

theorem appendSample_inRange {r : DriftRecord} (h : RecordInRange r) (tick : Tick) (thetaP : Int) :
    RecordInRange (appendSample tick thetaP r) ∧ (appendSample tick thetaP r).verdict = r.verdict := by
  obtain ⟨hlen, hrate, hfresh, hd⟩ := h
  unfold appendSample
  dsimp only
  split
  next hfull =>
    refine ⟨⟨?_, fun v hv => ?_, fun _ => rfl, hd⟩, rfl⟩
    · simp only [List.length_drop, hfull]
      omega
    · cases hv
      exact rateOf_natAbs_le _
  next hshort =>
    refine ⟨⟨?_, hrate, hfresh, hd⟩, rfl⟩
    simp only [List.length_append, List.length_singleton] at hshort ⊢
    omega

/-- A drift record is replaced by one in range with the same verdict. -/
theorem driftInRange_setDrift {m : Dmon} (h : DriftInRange m) {p : Station} {r : DriftRecord} (hr : RecordInRange r)
    (hv : r.verdict = m.drift[p].verdict) : DriftInRange { m with drift := m.drift.set p r } := by
  obtain ⟨hall, hrest⟩ := h
  refine ⟨fun q => ?_, hrest⟩
  by_cases hq : p = q
  · subst hq
    simp only [Fin.getElem_fin, Vector.getElem_set_self] at hv ⊢
    rw [hv]
    exact ⟨hr, (hall p).2⟩
  · have hval : p.val ≠ q.val := Fin.val_ne_of_ne hq
    simp only [Fin.getElem_fin, Vector.getElem_set_ne _ _ hval]
    exact hall q

/-- Every record goes through one function that keeps it in range, and its verdict. -/
theorem driftInRange_mapAll {m : Dmon} (h : DriftInRange m) {f : DriftRecord → DriftRecord}
    (hf : ∀ r, RecordInRange r → RecordInRange (f r)) (hv : ∀ r, (f r).verdict = r.verdict) :
    DriftInRange { m with drift := mapAll f m.drift } := by
  obtain ⟨hall, hrest⟩ := h
  refine ⟨fun p => ?_, hrest⟩
  have hp := hall p
  simp only [Fin.getElem_fin, mapAll_getElem, hv] at hp ⊢
  exact ⟨hf _ hp.1, hp.2⟩

theorem clearWindow_inRange {r : DriftRecord} (h : RecordInRange r) : RecordInRange { r with window := [] } :=
  ⟨Nat.zero_le _, h.2⟩

theorem clearFlag_inRange {r : DriftRecord} (h : RecordInRange r) : RecordInRange { r with fresh := false } :=
  ⟨h.1, h.2.1, nofun, h.2.2.2⟩

/-! ## The reference rate (R93, R94) -/

theorem mem_insertRate (x y : Int) (rs : List Int) : y ∈ insertRate x rs ↔ y = x ∨ y ∈ rs := by
  induction rs with
  | nil => simp [insertRate]
  | cons r rs ih =>
    unfold insertRate
    split
    · simp
    · simp only [List.mem_cons, ih]
      tauto

theorem mem_sortRates (y : Int) (rs : List Int) : y ∈ sortRates rs ↔ y ∈ rs := by
  induction rs with
  | nil => simp [sortRates]
  | cons r rs ih =>
    rw [sortRates, List.foldr_cons, mem_insertRate, List.mem_cons]
    exact or_congr_right ih

theorem referenceRate_natAbs_le {rates : List Int} (h : ∀ x ∈ rates, x.natAbs ≤ 10000000) :
    (referenceRate rates).natAbs ≤ 10000000 := by
  unfold referenceRate
  rw [List.getD_eq_getElem?_getD]
  cases hat : (sortRates rates)[(rates.length + 1) / 2 - 1]? with
  | none => exact Nat.zero_le _
  | some x => exact h x ((mem_sortRates x rates).1 (List.mem_of_getElem? hat))

theorem reviewRate_natAbs_le {s : State} (h : DriftInRange s.dmon) (p : Station) : ∀ x ∈ reviewRate s p, x.natAbs ≤ 10000000 := by
  intro x hx
  unfold reviewRate at hx
  split at hx
  · obtain ⟨⟨-, hrate, -⟩, -⟩ := h.1 p
    exact hrate x hx
  · cases hx

theorem reviewRates_natAbs_le {s : State} (h : DriftInRange s.dmon) : ∀ x ∈ reviewRates s, x.natAbs ≤ 10000000 := by
  intro x hx
  rcases List.mem_cons.1 hx with rfl | hx
  · exact Nat.zero_le _
  · obtain ⟨p, -, hp⟩ := List.mem_filterMap.1 hx
    exact reviewRate_natAbs_le h p x hp

/-! ## Verdicts and their warnings (R95, R96) -/

theorem warnVerdict_dmon (k : WarningKind) (subj : Subject) (v v' : Verdict) (d : Int) (s : State) :
    (s.warnVerdict k subj v v' d).dmon = { s.dmon with warnings := (s.warnVerdict k subj v v' d).dmon.warnings } := by
  unfold State.warnVerdict
  split
  · rfl
  split
  · exact raiseWarning_dmon _ s
  split
  · exact removeWarning_dmon _ _ s
  · rfl

/-- A verdict's warning is no other's. -/
theorem warned_warnVerdict_other {k k' : WarningKind} {subj subj' : Subject} (hne : ¬(k = k' ∧ subj = subj')) (v v' : Verdict)
    (d : Int) (s : State) :
    Warned (s.warnVerdict k subj v v' d).dmon.warnings k' subj' ↔ Warned s.dmon.warnings k' subj' := by
  unfold State.warnVerdict
  split
  · exact Iff.rfl
  split
  · rw [warned_raiseWarning]
    exact or_iff_left hne
  split
  · rw [warned_removeWarning]
    exact and_iff_left hne
  · exact Iff.rfl

/-- R95: a verdict leaves DRIFTING and EASING only for STEADY, and comes to them only through DRIFTING. -/
theorem nextVerdict_moves (l : Nat) (v : Verdict) (d : Int) :
    nextVerdict l v d = v ∨ nextVerdict l v d = .drifting ∨ nextVerdict l v d = .steady
      ∨ (nextVerdict l v d = .suspect ∧ v = .steady) ∨ (nextVerdict l v d = .easing ∧ v = .drifting) := by
  cases v <;> unfold nextVerdict <;> dsimp only <;> split_ifs <;> simp

theorem warnVerdict_warned {s : State} {k : WarningKind} {subj : Subject} {v : Verdict}
    (h : VerdictWarned s.dmon.warnings k subj v) (l : Nat) (d : Int) :
    VerdictWarned (s.warnVerdict k subj v (nextVerdict l v d) d).dmon.warnings k subj (nextVerdict l v d) := by
  have hmoves := nextVerdict_moves l v d
  generalize nextVerdict l v d = v' at hmoves ⊢
  unfold State.warnVerdict
  split
  next hsame =>
    rw [hsame]
    exact h
  next hmoved =>
    split
    next hdrifting =>
      refine iff_of_true (.inl hdrifting) ((warned_raiseWarning _ _ _ _).2 (.inr ⟨rfl, rfl⟩))
    next hnotdrifting =>
      split
      next hsteady =>
        refine iff_of_false (by simp [hsteady]) fun hwarned => ?_
        exact ((warned_removeWarning _ _ _ _ _).1 hwarned).2 ⟨rfl, rfl⟩
      next hnotsteady =>
        rcases hmoves with hm | hm | hm | ⟨hm, hv⟩ | ⟨hm, hv⟩
        · exact (hmoved hm).elim
        · exact (hnotdrifting hm).elim
        · exact (hnotsteady hm).elim
        · rw [hv] at h
          rw [hm]
          exact (iff_of_false (by simp) (by simp)).trans h
        · rw [hv] at h
          rw [hm]
          exact (iff_of_true (by simp) (by simp)).trans h

/-! ## A review (R93 to R99) -/

theorem judgePeer_inRange {s : State} (h : DriftInRange s.dmon) {ref : Int} {rate : Option Int} (p : Station)
    (hd : ∀ rho ∈ rate, (rho - ref).natAbs ≤ 20000000) : DriftInRange (s.judgePeer ref rate p).dmon := by
  cases rate with
  | none => exact h
  | some rho =>
    obtain ⟨hall, hownD, hown⟩ := h
    unfold State.judgePeer
    dsimp only
    rw [warnVerdict_dmon]
    refine ⟨fun q => ?_, hownD, ?_⟩
    · by_cases hq : p = q
      · subst hq
        have hwarned := warnVerdict_warned (s := s.setDrift p { s.dmon.drift[p] with
          verdict := nextVerdict (profileAttrs s.svc.image s.ptab[p].profile).driftLimit s.dmon.drift[p].verdict (rho - ref)
          d := rho - ref }) (hall p).2 (profileAttrs s.svc.image s.ptab[p].profile).driftLimit (rho - ref)
        obtain ⟨⟨hlen, hrate, hfresh, -⟩, -⟩ := hall p
        simp only [Fin.getElem_fin, State.setDrift_dmon, Vector.getElem_set_self] at hwarned ⊢
        exact ⟨⟨hlen, hrate, hfresh, hd rho rfl⟩, hwarned⟩
      · have hval : p.val ≠ q.val := Fin.val_ne_of_ne hq
        have hother : ¬(WarningKind.peerDrifting = .peerDrifting ∧ Subject.peer p = Subject.peer q) := by simp [hq]
        simp only [VerdictWarned, warned_warnVerdict_other hother]
        simp only [Fin.getElem_fin, State.setDrift_dmon, Vector.getElem_set_ne _ _ hval]
        exact hall q
    · simp only [VerdictWarned, warned_warnVerdict_other (k := .peerDrifting) (k' := .selfDrifting) (subj' := .own) (by simp)]
      exact hown

theorem foldl_judgePeer_inRange {ref : Int} {rate : Station → Option Int}
    (hd : ∀ p, ∀ rho ∈ rate p, (rho - ref).natAbs ≤ 20000000) (ps : List Station) {s : State} (h : DriftInRange s.dmon) :
    DriftInRange (ps.foldl (fun t p => t.judgePeer ref (rate p) p) s).dmon := by
  induction ps generalizing s with
  | nil => exact h
  | cons p ps ih => exact ih (judgePeer_inRange h p (hd p))

theorem judgeOwn_inRange {s : State} (h : DriftInRange s.dmon) {ref : Int} (href : ref.natAbs ≤ 10000000) :
    DriftInRange (s.judgeOwn ref).dmon := by
  obtain ⟨hall, -, hown⟩ := h
  have hwarned := warnVerdict_warned (s := s.onDmon fun m =>
    { m with ownVerdict := nextVerdict s.svc.image.dflt.driftLimit s.dmon.ownVerdict (-ref), ownD := -ref }) hown
    s.svc.image.dflt.driftLimit (-ref)
  unfold State.judgeOwn
  dsimp only
  rw [warnVerdict_dmon]
  refine ⟨fun p => ⟨(hall p).1, ?_⟩, ?_, hwarned⟩
  · simp only [VerdictWarned, warned_warnVerdict_other (k := .selfDrifting) (k' := .peerDrifting) (subj' := .peer p) (by simp)]
    exact (hall p).2
  · simpa using href

theorem judgeAll_inRange {s : State} (h : DriftInRange s.dmon) :
    DriftInRange (judgeAll (referenceRate (reviewRates s)) s).dmon := by
  have href := referenceRate_natAbs_le (reviewRates_natAbs_le h)
  refine judgeOwn_inRange (foldl_judgePeer_inRange (fun p rho hrho => ?_) stations h) href
  have hrate := reviewRate_natAbs_le h p rho hrho
  omega

theorem review_keeps {s : State} (h : DriftStanding s) : Leads DriftStanding (execReview s) := by
  obtain ⟨hin, hreview⟩ := (driftStanding_iff s).1 h
  unfold execReview
  split
  · split
    · refine (leads_next _ _).2 ((driftStanding_iff _).2 ⟨?_, ?_⟩)
      · simp only [inconclusiveReview, State.onDmon_dmon]
        exact hin
      · simp [inconclusiveReview]
    · refine (leads_next _ _).2 ((driftStanding_iff _).2 ⟨?_, ?_⟩)
      · have hjudged := judgeAll_inRange hin
        dsimp only [conclusiveReview]
        generalize judgeAll (referenceRate (reviewRates s)) s = t at hjudged ⊢
        have hcleared := driftInRange_mapAll hjudged (f := fun r => { r with fresh := false })
          (fun _ => clearFlag_inRange) fun _ => rfl
        simp only [State.post_dmon, State.onDmon_dmon, clearFresh]
        exact hcleared
      · simp [conclusiveReview]
  · exact (leads_next _ _).2 h

/-! ## The commands of DMON -/

theorem raiseWarning_keeps {s : State} (h : DriftStanding s) {w : Warning} (hkind : w.kind ≠ .peerDrifting ∧ w.kind ≠ .selfDrifting) :
    DriftStanding (s.raiseWarning w) := by
  obtain ⟨⟨hall, hownD, hown⟩, hreview⟩ := (driftStanding_iff s).1 h
  rw [driftStanding_iff, raiseWarning_dmon]
  refine ⟨⟨fun p => ⟨(hall p).1, ?_⟩, hownD, ?_⟩, hreview⟩
  · simp only [VerdictWarned, warned_raiseWarning, hkind.1, false_and, or_false]
    exact (hall p).2
  · simp only [VerdictWarned, warned_raiseWarning, hkind.2, false_and, or_false]
    exact hown

theorem removeWarning_keeps {s : State} (h : DriftStanding s) {k : WarningKind} (hkind : k ≠ .peerDrifting ∧ k ≠ .selfDrifting)
    (subj : Subject) : DriftStanding (s.removeWarning k subj) := by
  obtain ⟨⟨hall, hownD, hown⟩, hreview⟩ := (driftStanding_iff s).1 h
  rw [driftStanding_iff, removeWarning_dmon]
  refine ⟨⟨fun p => ⟨(hall p).1, ?_⟩, hownD, ?_⟩, hreview⟩
  · simp only [VerdictWarned, warned_removeWarning, hkind.1, false_and, not_false_eq_true, and_true]
    exact (hall p).2
  · simp only [VerdictWarned, warned_removeWarning, hkind.2, false_and, not_false_eq_true, and_true]
    exact hown

theorem driftStanding_of_drift {s t : State} (h : DriftStanding s) (hin : DriftInRange t.dmon)
    (hreview : t.dmon.review = s.dmon.review) : DriftStanding t := by
  rw [driftStanding_iff, hreview]
  exact ⟨hin, ((driftStanding_iff s).1 h).2⟩

theorem raises_keep {s : State} (c : Instr) (hc : writes c = [.dmon]) (h : DriftStanding s) : Leads DriftStanding (exec c s) := by
  cases c
  case fallbackNoticeAtDmon =>
    change Leads _ (execFallbackNoticeAtDmon s)
    unfold execFallbackNoticeAtDmon
    split
    · exact (leads_next _ _).2 h
    next time rest _ =>
      exact (leads_next _ _).2 (raiseWarning_keeps (s := s.onNet fun n => { n with fallbackDmon := rest }) h ⟨nofun, nofun⟩)
  case duplicateNotice =>
    change Leads _ (execDuplicateNotice s)
    unfold execDuplicateNotice
    split
    · exact (leads_next _ _).2 h
    next time rest _ =>
      exact (leads_next _ _).2 (raiseWarning_keeps (s := s.onNet fun n => { n with duplicates := rest }) h ⟨nofun, nofun⟩)
  case raiseNotice k =>
    change Leads _ (execRaiseNotice k s)
    unfold execRaiseNotice
    split
    next time rest _ =>
      exact (leads_next _ _).2 (raiseWarning_keeps (s := s.onNet fun n => { n with warn := rest }) h (noticeWarning_ne k))
    · exact (leads_next _ _).2 h
  case removalNotice k =>
    change Leads _ (execRemovalNotice k s)
    unfold execRemovalNotice
    split
    next rest _ =>
      exact (leads_next _ _).2 (removeWarning_keeps (s := s.onNet fun n => { n with warn := rest }) h (noticeWarning_ne k) _)
    · exact (leads_next _ _).2 h
  case stepNoticeAtDmon =>
    change Leads _ (execStepNoticeAtDmon s)
    unfold execStepNoticeAtDmon
    split
    · exact (leads_next _ _).2 h
    next c rest _ =>
      have hcleared := driftInRange_mapAll ((driftStanding_iff s).1 h).1 (f := fun r => { r with window := [] })
        (fun _ => clearWindow_inRange) fun _ => rfl
      refine (leads_next _ _).2 (driftStanding_of_drift h ?_ ?_)
      · simp only [State.onDmon_dmon, State.onNet_dmon]
        exact hcleared
      · simp only [State.onDmon_dmon, State.onNet_dmon]
  all_goals exact absurd hc (by simp [writes])

theorem windowCommands_keep {s : State} (c : Instr) (hc : writes c = [.dmon, .toDmon]) (h : DriftStanding s) :
    Leads DriftStanding (exec c s) := by
  have hin := ((driftStanding_iff s).1 h).1
  have hset (rest : List PeerNotice) {p : Station} {r : DriftRecord} (hr : RecordInRange r)
      (hv : r.verdict = s.dmon.drift[p].verdict) :
      DriftStanding ((s.onNet fun n => { n with toDmon := rest }).setDrift p r) := by
    refine driftStanding_of_drift h ?_ ?_
    · rw [State.setDrift_dmon, State.onNet_dmon]
      exact driftInRange_setDrift hin hr hv
    · rw [State.setDrift_dmon, State.onNet_dmon]
  cases c
  case sample =>
    change Leads _ (execSample s)
    unfold execSample
    split
    next p tick thetaP rest _ =>
      split
      · exact (leads_next _ _).2 h
      · obtain ⟨hr, hv⟩ := appendSample_inRange (hin.1 p).1 tick thetaP
        exact (leads_next _ _).2 (hset rest hr hv)
    · exact (leads_next _ _).2 h
  case leaveNotice =>
    change Leads _ (execLeaveNotice s)
    unfold execLeaveNotice
    split
    next p rest _ => exact (leads_next _ _).2 (hset rest (clearFlag_inRange (clearWindow_inRange (hin.1 p).1)) rfl)
    · exact (leads_next _ _).2 h
  case windowNotice =>
    change Leads _ (execWindowNotice s)
    unfold execWindowNotice
    split
    next p rest _ => exact (leads_next _ _).2 (hset rest (clearWindow_inRange (hin.1 p).1) rfl)
    · exact (leads_next _ _).2 h
  all_goals exact absurd hc (by simp [writes])

/-- A reset leaves no drift, and no warning of one. -/
theorem driftStanding_reset {t : State} {ws : List Warning} (hdmon : t.dmon = { Dmon.reset with warnings := ws })
    (hws : ∀ w ∈ ws, w.kind ≠ .peerDrifting ∧ w.kind ≠ .selfDrifting) : DriftStanding t := by
  have hpeer (subj : Subject) : ¬Warned ws .peerDrifting subj := by
    rintro ⟨w, hw, hk, -⟩
    exact (hws w hw).1 hk
  have hself (subj : Subject) : ¬Warned ws .selfDrifting subj := by
    rintro ⟨w, hw, hk, -⟩
    exact (hws w hw).2 hk
  rw [driftStanding_iff, hdmon]
  refine ⟨⟨fun p => ⟨?_, ?_⟩, Nat.zero_le _, iff_of_false (by simp [Dmon.reset]) (hself _)⟩,
    by simp [Dmon.reset, ReviewRecord.empty]⟩
  · simp [Dmon.reset, DriftRecord.reset, RecordInRange]
  · exact iff_of_false (by simp [Dmon.reset, DriftRecord.reset]) (hpeer _)

theorem exec_driftStanding (c : Instr) (s : State) (h : DriftStanding s) : Leads DriftStanding (exec c s) := by
  by_cases hc : ∀ b ∈ [Block.dmon], b ∉ writes c
  · exact driftStanding_reads.exec_keeps hc h
  by_cases hraises : writes c = [.dmon]
  · exact raises_keep c hraises h
  by_cases hwindow : writes c = [.dmon, .toDmon]
  · exact windowCommands_keep c hwindow h
  have hrequest {code : Byte} {act : State → State × Status × List Byte}
      (hact : ∀ t, DriftStanding t → DriftStanding (act t).1) : Leads DriftStanding (.next (takeRequest code act s)) :=
    (leads_next _ _).2 (driftStanding_reads.takeRequest_keeps (by simp) hact h)
  cases c
  case fullReset straps => exact (leads_next _ _).2 (driftStanding_reset (ws := []) rfl nofun)
  case restart straps =>
    refine hrequest fun t _ => driftStanding_reset (ws := t.dmon.warnings.filter fun w => w.kind = .oscFallback) rfl fun w hw => ?_
    have hkind : w.kind = .oscFallback := by simpa using (List.mem_filter.1 hw).2
    simp [hkind]
  case start =>
    refine hrequest fun t ht => ?_
    unfold takeStart
    split <;> exact ht
  case review => exact review_keeps h
  case fallbackNoticeAtDmon | duplicateNotice | raiseNotice | removalNotice | stepNoticeAtDmon =>
    exact absurd (by simp [writes]) hraises
  case sample | leaveNotice | windowNotice => exact absurd (by simp [writes]) hwindow
  all_goals exact absurd (by simp [writes]) hc

end Sys2Proof.DriftLaws
end

section
/-! The order of arrivals: where an arrival tick stands on its way from the line to a window, and that no step takes it past
another. -/

namespace Sys2Proof.ArrivalLaws

open Sys2Proof.Machine Sys2Proof.Frames Sys2Proof.SpanLaws

/-! ## The arrivals by where they stand -/

/-- The arrival tick of a notice that carries a sample of this peer. -/
def sampleArrival (p : Station) : PeerNotice → Option Tick
  | .sample q tick _ => if q = p then some tick else none
  | .leave _ => none
  | .window _ => none

/-- The arrival tick of a reception that has one. -/
def receptionArrival (r : Reception) : Option Tick := r.readings.map Readings.tick

/-- The arrivals that SPAN holds: the receptions not yet checked, and the readings of the one that comes in. -/
def spanArrivals (sp : Span) : List Tick := sp.ended.filterMap receptionArrival ++ (sp.readings.map Readings.tick).toList

/-- The arrivals that have left SPAN: a window's, the samples' and the frames' on their way. -/
def takenArrivals (drift : Vector DriftRecord 32) (toDmon : List PeerNotice) (handOffs : List HandOff) (p : Station) : List Tick :=
  drift[p].window.map Prod.fst ++ (toDmon.filterMap (sampleArrival p) ++ handOffs.map HandOff.tick)

theorem arrivalTicks_eq (s : State) (p : Station) :
    arrivalTicks s p =
      takenArrivals s.dmon.drift s.net.toDmon s.net.handOffs p ++ (spanArrivals s.span ++ [s.osc.tick]) := by
  have hsample : s.net.toDmon.filterMap (sampleArrival p) = s.net.toDmon.filterMap fun
      | .sample q tick _ => if q = p then some tick else none
      | .leave _ => none
      | .window _ => none := by
    congr 1
  rw [takenArrivals, hsample]
  simp only [arrivalTicks, spanArrivals, List.append_assoc]
  rfl

/-- Arrivals leave the list, and none enters it. -/
theorem arrivals_of_sublist {s t : State} (h : ArrivalsInOrder s)
    (htaken : ∀ p, (takenArrivals t.dmon.drift t.net.toDmon t.net.handOffs p).Sublist
      (takenArrivals s.dmon.drift s.net.toDmon s.net.handOffs p))
    (hspan : (spanArrivals t.span).Sublist (spanArrivals s.span)) (htick : t.osc.tick = s.osc.tick) : ArrivalsInOrder t := by
  intro p
  refine (h p).sublist ?_
  rw [arrivalTicks_eq, arrivalTicks_eq, htick]
  exact (htaken p).append (hspan.append_right _)

theorem arrivalsInOrder_reads : Reads [.dmon, .toDmon, .handOffs, .span, .tick] ArrivalsInOrder := by
  intro s t hsame h
  have hdmon : t.dmon = s.dmon := hsame .dmon (by simp)
  have hto : t.net.toDmon = s.net.toDmon := hsame .toDmon (by simp)
  have hoffs : t.net.handOffs = s.net.handOffs := hsame .handOffs (by simp)
  have hspan : t.span = s.span := hsame .span (by simp)
  refine arrivals_of_sublist h (fun p => ?_) (hspan ▸ List.Sublist.refl _) (hsame .tick (by simp))
  rw [hdmon, hto, hoffs]

theorem takenArrivals_sublist {drift drift' : Vector DriftRecord 32} {notes notes' : List PeerNotice} {offs offs' : List HandOff}
    {p : Station} (hwindow : drift'[p].window.Sublist drift[p].window) (hto : notes'.Sublist notes) (hoffs : offs'.Sublist offs) :
    (takenArrivals drift' notes' offs' p).Sublist (takenArrivals drift notes offs p) :=
  (hwindow.map _).append ((hto.filterMap _).append (hoffs.map _))

/-! ## The line (R20, R21, R22) -/

theorem tick_keeps (caps : BitVec 8) (ref : Bool) {s : State} (hcount : s.osc.tick + 1 < 2 ^ 64) (h : ArrivalsInOrder s) :
    Leads ArrivalsInOrder (exec (.tick caps ref) s) := by
  rw [ClockMoves.tick_eq caps ref hcount, leads_next]
  have hticked := (changesOnly_advance { s with osc := { s.osc with tick := s.osc.tick + 1 } }).mono
    (vs := [.clock, .terms, .anch, .capu]) (by simp)
  have hsampled := hticked.trans ((changesOnly_sampleInputs caps ref _).mono (by simp))
  intro p
  have hp := h p
  have htick : _ = s.osc.tick + 1 := hsampled .tick (by simp)
  rw [arrivalTicks_eq] at hp ⊢
  rw [hsampled .dmon (by simp), hsampled .toDmon (by simp), hsampled .handOffs (by simp), hsampled .span (by simp), htick]
  rw [← List.append_assoc] at hp ⊢
  obtain ⟨hall, -, hlast⟩ := List.pairwise_append.1 hp
  refine List.pairwise_append.2 ⟨hall, List.pairwise_singleton _ _, fun x hx y hy => ?_⟩
  rw [List.mem_singleton.1 hy]
  exact (hlast x hx _ List.mem_cons_self).trans (Nat.le_succ _)

theorem arrivals_onSpan {s : State} (h : ArrivalsInOrder s) {f : Span → Span}
    (hf : (spanArrivals (f s.span)).Sublist (spanArrivals s.span)) : ArrivalsInOrder (s.onSpan f) :=
  arrivals_of_sublist h (fun _ => .refl _) hf rfl

/-- The transmitter's moves leave the receiver's records alone. -/
theorem arrivals_onSpan_same {s : State} (h : ArrivalsInOrder s) {f : Span → Span} (hended : (f s.span).ended = s.span.ended)
    (hreadings : (f s.span).readings = s.span.readings) : ArrivalsInOrder (s.onSpan f) :=
  arrivals_onSpan h (by rw [spanArrivals, hended, hreadings]; exact .refl _)

theorem spanArrivals_endReception (how : RxEnd) (next : RxPhase) (sp : Span) :
    spanArrivals (endReception how next sp) = spanArrivals sp := by
  cases hreadings : sp.readings <;> simp [spanArrivals, endReception, receptionArrival, hreadings]

theorem spanArrivals_matchSync (n : Nat) (b : Bool) (sp : Span) :
    (spanArrivals (matchSync n b sp)).Sublist (spanArrivals sp) := by
  unfold matchSync
  split
  · split
    · simp [spanArrivals]
    · exact .refl _
  · exact .refl _

theorem spanArrivals_receiveSymbol (sym : LineSymbol) (sp : Span) :
    (spanArrivals (receiveSymbol sym sp)).Sublist (spanArrivals sp) := by
  unfold receiveSymbol
  split
  case h_5 b _ => exact spanArrivals_matchSync 0 b sp
  case h_8 n b _ => exact spanArrivals_matchSync n b sp
  case h_10 => rw [spanArrivals_endReception]
  case h_11 =>
    split
    · rw [spanArrivals_endReception]
    · exact .refl _
  case h_12 => rw [spanArrivals_endReception]
  all_goals exact .refl _

theorem spanArrivals_hearSymbol (station : Station) (sym : LineSymbol) (sp : Span) :
    (spanArrivals (hearSymbol station sym sp)).Sublist (spanArrivals sp) := by
  have hreach : spanArrivals (reachCount sp) = spanArrivals sp := by
    unfold reachCount
    split <;> rfl
  have hcompare (driven : Option Bool) (sp' : Span) : spanArrivals (compareDriven driven sym sp') = spanArrivals sp' := by
    unfold compareDriven
    split
    · rfl
    · split <;> rfl
  have hheard : spanArrivals (hearSymbol station sym sp) = spanArrivals (receiveSymbol sym (reachCount sp)) :=
    hcompare (drivenBit station (reachCount sp)) (receiveSymbol sym (reachCount sp))
  rw [hheard, ← hreach]
  exact spanArrivals_receiveSymbol sym (reachCount sp)

theorem endOfSyncMark_keeps {s : State} (h : ArrivalsInOrder s) : Leads ArrivalsInOrder (execEndOfSyncMark s) := by
  unfold execEndOfSyncMark
  split
  · refine (leads_next _ _).2 fun p => ?_
    have hp := h p
    rw [arrivalTicks_eq] at hp ⊢
    simp only [spanArrivals, State.onSpan_span, State.onSpan_osc, State.onSpan_dmon, State.onSpan_net, takeReadings, Option.map_some,
      Option.toList_some] at hp ⊢
    generalize takenArrivals s.dmon.drift s.net.toDmon s.net.handOffs p = taken at hp ⊢
    have hshort : ((taken ++ s.span.ended.filterMap receptionArrival) ++ [s.osc.tick]).Pairwise (· ≤ ·) := by
      refine hp.sublist ?_
      rw [List.append_assoc]
      refine (List.Sublist.refl taken).append ?_
      rw [List.append_assoc]
      exact (List.Sublist.refl _).append (List.sublist_append_right _ _)
    obtain ⟨hall, -, hlast⟩ := List.pairwise_append.1 hshort
    simp only [← List.append_assoc]
    rw [List.append_assoc _ [s.osc.tick]]
    refine List.pairwise_append.2 ⟨hall, by simp, fun x hx y hy => hlast x hx y ?_⟩
    simpa using hy
  · exact (leads_next _ _).2 h

theorem classFrame_arrivals {s : State} (f : Frame) (r : Readings) :
    spanArrivals (s.classFrame f r).span = spanArrivals s.span
      ∧ ((s.classFrame f r).net.handOffs = s.net.handOffs
        ∨ ∃ x : HandOff, x.tick = r.tick ∧ (s.classFrame f r).net.handOffs = s.net.handOffs ++ [x]) := by
  unfold State.classFrame
  split
  · split
    · exact ⟨rfl, .inl rfl⟩
    · unfold State.hearDuplicate
      split <;> exact ⟨rfl, .inl rfl⟩
  · split
    · exact ⟨rfl, .inl rfl⟩
    · split
      · exact ⟨rfl, .inl rfl⟩
      · exact ⟨rfl, .inr ⟨handOffOf f r, rfl, rfl⟩⟩

theorem receptionEnd_keeps {s : State} (h : ArrivalsInOrder s) : Leads ArrivalsInOrder (execReceptionEnd s) := by
  unfold execReceptionEnd
  split
  · exact (leads_next _ _).2 h
  next r rest hended =>
    have htail : (rest.filterMap receptionArrival).Sublist ((r :: rest).filterMap receptionArrival) :=
      (List.sublist_cons_self r rest).filterMap _
    have hdropped : ArrivalsInOrder (s.onSpan fun sp => { sp with ended := rest }) := by
      refine arrivals_onSpan h ?_
      simp only [spanArrivals, hended]
      exact htail.append_right _
    dsimp only
    split
    next f rd hframe hrd =>
      have hframe' := changesOnly_classFrame f rd (s.onSpan fun sp => { sp with ended := rest })
      obtain ⟨hspan, hoffs⟩ := classFrame_arrivals (s := s.onSpan fun sp => { sp with ended := rest }) f rd
      rw [leads_next]
      generalize (s.onSpan fun sp => { sp with ended := rest }).classFrame f rd = t at hframe' hspan hoffs
      have hdmon : t.dmon = s.dmon := hframe' .dmon (by simp)
      have hto : t.net.toDmon = s.net.toDmon := hframe' .toDmon (by simp)
      have htick : t.osc.tick = s.osc.tick := hframe' .tick (by simp)
      rcases hoffs with hoffs | ⟨x, hx, hoffs⟩
      · refine arrivals_of_sublist hdropped (fun p => ?_) (hspan ▸ List.Sublist.refl _) htick
        rw [hdmon, hto, hoffs]
        exact .refl _
      · intro p
        have hp := h p
        rw [arrivalTicks_eq] at hp ⊢
        rw [hspan, hdmon, hto, htick, hoffs]
        simp only [spanArrivals, hended, takenArrivals, State.onSpan_span, State.onSpan_net, List.map_append, List.map_cons,
          List.map_nil, hx, List.append_assoc, List.filterMap_cons, receptionArrival, hrd, Option.map_some, List.cons_append,
          List.nil_append] at hp ⊢
        exact hp
    · exact (leads_next _ _).2 hdropped

/-! ## PTAB (R46, R55, R56) -/

/-- A frame taken gives DMON one sample at most, with the frame's arrival tick. -/
theorem takeFrame_arrivals (own : Station) (tick : Tick) (a : ProfileAttrs) (f : HandOff) (r : PeerRecord) (p : Station) :
    ((takeFrame own tick a f r).2.filterMap (sampleArrival p)).Sublist [f.tick] := by
  have hsample : ([sampleOf a f].filterMap (sampleArrival p)).Sublist [f.tick] := by
    simp only [sampleOf, List.filterMap_cons, List.filterMap_nil, sampleArrival]
    split
    · exact List.nil_sublist _
    next hb =>
      split at hb
      · cases hb
        exact .refl _
      · cases hb
  have hwindow : (windowIfStepped f).filterMap (sampleArrival p) = [] := by
    unfold windowIfStepped
    split <;> rfl
  have htested : ((testedBeacon own tick a f r).2.filterMap (sampleArrival p)).Sublist [f.tick] := by
    unfold testedBeacon
    split
    · rw [List.filterMap_append, hwindow]
      exact hsample
    · exact List.nil_sublist _
    · exact List.nil_sublist _
    · exact hsample
    · exact List.nil_sublist _
  unfold takeFrame
  split
  case h_1 => exact List.nil_sublist _
  case h_2 => exact List.nil_sublist _
  case h_3 =>
    split
    · exact List.nil_sublist _
    · split
      · exact List.nil_sublist _
      · exact htested
  all_goals
    split
    · exact List.nil_sublist _
    · exact htested

theorem handOff_keeps {s : State} (h : ArrivalsInOrder s) : Leads ArrivalsInOrder (execHandOff s) := by
  unfold execHandOff
  split
  · exact (leads_next _ _).2 h
  next f rest hfront =>
    refine (leads_next _ _).2 (arrivals_of_sublist h (fun p => ?_) (.refl _) rfl)
    have hsample := takeFrame_arrivals s.svc.station s.osc.tick (profileAttrs s.svc.image s.ptab[f.station].profile) f
      s.ptab[f.station] p
    simp only [takenArrivals, hfront, State.sendDmon_net, State.setPeer_net, State.onNet_net, State.sendDmon_dmon,
      State.setPeer_dmon, State.onNet_dmon, List.filterMap_append, List.map_cons, List.append_assoc]
    exact (List.Sublist.refl _).append ((List.Sublist.refl _).append (hsample.append_right _))

/-- Leave and window notices carry no sample. -/
theorem leaves_no_arrival (ps : List Station) (p : Station) : (ps.map PeerNotice.leave).filterMap (sampleArrival p) = [] := by
  simp [List.filterMap_map, sampleArrival, Function.comp_def]

theorem arrivals_sendDmon {s t : State} (h : ArrivalsInOrder s) {notes : List PeerNotice}
    (hnone : ∀ p, notes.filterMap (sampleArrival p) = []) (hdmon : t.dmon = s.dmon)
    (hto : t.net.toDmon = s.net.toDmon ++ notes) (hoffs : t.net.handOffs = s.net.handOffs)
    (hspan : t.span = s.span) (htick : t.osc.tick = s.osc.tick) : ArrivalsInOrder t := by
  refine arrivals_of_sublist h (fun p => ?_) (hspan ▸ List.Sublist.refl _) htick
  rw [hdmon, hto, hoffs, takenArrivals, List.filterMap_append, hnone, List.append_nil]
  exact .refl _

theorem silenceExpiry_keeps (p : Station) {s : State} (h : ArrivalsInOrder s) :
    Leads ArrivalsInOrder (execSilenceExpiry p s) := by
  unfold execSilenceExpiry
  dsimp only
  split
  · exact (leads_next _ _).2 h
  · split
    · split
      · exact (leads_next _ _).2 h
      · exact (leads_next _ _).2 (arrivals_sendDmon h (leaves_no_arrival [p]) rfl rfl rfl rfl rfl)
      · exact (leads_next _ _).2 h
      · exact (leads_next _ _).2 h
      · exact (leads_next _ _).2 h
    · exact (leads_next _ _).2 h

/-! ## DMON (R88, R90, R91, R94) -/

/-- DMON's windows, and what is on its way to it, lose members at most. -/
theorem arrivals_of_windows {s t : State} (h : ArrivalsInOrder s)
    (hwindow : ∀ p : Station, t.dmon.drift[p].window.Sublist s.dmon.drift[p].window) (hto : t.net.toDmon.Sublist s.net.toDmon)
    (hoffs : t.net.handOffs = s.net.handOffs) (hspan : t.span = s.span) (htick : t.osc.tick = s.osc.tick) :
    ArrivalsInOrder t :=
  arrivals_of_sublist h (fun p => takenArrivals_sublist (hwindow p) hto (hoffs ▸ List.Sublist.refl _))
    (hspan ▸ List.Sublist.refl _) htick

theorem arrivals_of_drift {ws : List Block} {s t : State} (h : ArrivalsInOrder s) (hst : ChangesOnly ws s t)
    (hws : .toDmon ∉ ws ∧ .handOffs ∉ ws ∧ .span ∉ ws ∧ .tick ∉ ws)
    (hwindow : ∀ p : Station, t.dmon.drift[p].window.Sublist s.dmon.drift[p].window) : ArrivalsInOrder t := by
  have hto : t.net.toDmon = s.net.toDmon := hst .toDmon hws.1
  exact arrivals_of_windows h hwindow (hto ▸ List.Sublist.refl _) (hst .handOffs hws.2.1) (hst .span hws.2.2.1)
    (hst .tick hws.2.2.2)

theorem warnVerdict_drift (k : WarningKind) (subj : Subject) (v v' : Verdict) (d : Int) (s : State) :
    (s.warnVerdict k subj v v' d).dmon.drift = s.dmon.drift := by
  rw [DriftLaws.warnVerdict_dmon]

theorem judgePeer_window (ref : Int) (rate : Option Int) (p q : Station) (s : State) :
    (s.judgePeer ref rate p).dmon.drift[q].window = s.dmon.drift[q].window := by
  cases rate with
  | none => rfl
  | some rho =>
    unfold State.judgePeer
    dsimp only
    simp only [warnVerdict_drift, State.setDrift_dmon]
    by_cases hq : p = q
    · subst hq
      simp
    · have hval : p.val ≠ q.val := Fin.val_ne_of_ne hq
      simp [Vector.getElem_set_ne _ _ hval]

theorem judgeAll_window (ref : Int) (q : Station) (s : State) :
    (judgeAll ref s).dmon.drift[q].window = s.dmon.drift[q].window := by
  have hpeers (rate : Station → Option Int) (ps : List Station) (t : State) :
      (ps.foldl (fun t p => t.judgePeer ref (rate p) p) t).dmon.drift[q].window = t.dmon.drift[q].window := by
    induction ps generalizing t with
    | nil => rfl
    | cons p ps ih => exact (ih _).trans (judgePeer_window ref (rate p) p q t)
  rw [← hpeers (reviewRate s) stations s]
  unfold judgeAll State.judgeOwn
  simp only [warnVerdict_drift, State.onDmon_dmon]

theorem review_keeps {s : State} (h : ArrivalsInOrder s) : Leads ArrivalsInOrder (execReview s) := by
  unfold execReview
  split
  · split
    · rw [leads_next]
      refine arrivals_of_drift h (changesOnly_onDmon _ s) (by simp) fun p => ?_
      simp only [inconclusiveReview, State.onDmon_dmon]
      exact .refl _
    · rw [leads_next]
      refine arrivals_of_drift h (changesOnly_conclusiveReview s) (by simp) fun p => ?_
      rw [← judgeAll_window (referenceRate (reviewRates s)) p s]
      simp only [conclusiveReview, State.post_dmon, State.onDmon_dmon, clearFresh, Fin.getElem_fin, mapAll_getElem]
      exact .refl _
  · exact (leads_next _ _).2 h

theorem raises_keep {s : State} (c : Instr) (hc : writes c = [.dmon]) (h : ArrivalsInOrder s) :
    Leads ArrivalsInOrder (exec c s) := by
  obtain ⟨t, ht, hst⟩ := exec_changesOnly c s
  rw [hc] at hst
  have hdrift (hd : Leads (fun t => ∀ p : Station, t.dmon.drift[p].window.Sublist s.dmon.drift[p].window) (exec c s)) :
      Leads ArrivalsInOrder (exec c s) := by
    rw [ht]
    exact (leads_next _ _).2 (arrivals_of_drift h hst (by simp) (hd.of_next ht))
  have hsame : ∀ {t : State}, t.dmon.drift = s.dmon.drift →
      ∀ p : Station, t.dmon.drift[p].window.Sublist s.dmon.drift[p].window := by
    intro t heq p
    rw [heq]
  have hraise (w : Warning) (u : State) : (u.raiseWarning w).dmon.drift = u.dmon.drift := by rw [WarningLaws.raiseWarning_dmon]
  have hremove (k : WarningKind) (subj : Subject) (u : State) : (u.removeWarning k subj).dmon.drift = u.dmon.drift := by
    rw [WarningLaws.removeWarning_dmon]
  refine hdrift ?_
  cases c
  case fallbackNoticeAtDmon =>
    change Leads _ (execFallbackNoticeAtDmon s)
    unfold execFallbackNoticeAtDmon
    split
    · exact (leads_next _ _).2 (hsame rfl)
    · exact (leads_next _ _).2 (hsame (hraise _ _))
  case duplicateNotice =>
    change Leads _ (execDuplicateNotice s)
    unfold execDuplicateNotice
    split
    · exact (leads_next _ _).2 (hsame rfl)
    · exact (leads_next _ _).2 (hsame (hraise _ _))
  case raiseNotice k =>
    change Leads _ (execRaiseNotice k s)
    unfold execRaiseNotice
    split
    · exact (leads_next _ _).2 (hsame (hraise _ _))
    · exact (leads_next _ _).2 (hsame rfl)
  case removalNotice k =>
    change Leads _ (execRemovalNotice k s)
    unfold execRemovalNotice
    split
    · exact (leads_next _ _).2 (hsame (hremove _ _ _))
    · exact (leads_next _ _).2 (hsame rfl)
  case stepNoticeAtDmon =>
    change Leads _ (execStepNoticeAtDmon s)
    unfold execStepNoticeAtDmon
    split
    · exact (leads_next _ _).2 (hsame rfl)
    · rw [leads_next]
      intro p
      simp only [State.onDmon_dmon, State.onNet_dmon, Fin.getElem_fin, mapAll_getElem]
      exact List.nil_sublist _
  all_goals exact absurd hc (by simp [writes])

theorem setDrift_window {s : State} {p : Station} {r : DriftRecord} (hr : r.window.Sublist s.dmon.drift[p].window) (q : Station) :
    (s.dmon.drift.set p r)[q].window.Sublist s.dmon.drift[q].window := by
  by_cases hq : p = q
  · subst hq
    simpa using hr
  · have hval : p.val ≠ q.val := Fin.val_ne_of_ne hq
    simp only [Fin.getElem_fin, Vector.getElem_set_ne _ _ hval]
    exact .refl _

/-- R88: a sample goes behind those of its peer's window. -/
theorem sample_keeps {s : State} (h : ArrivalsInOrder s) : Leads ArrivalsInOrder (execSample s) := by
  unfold execSample
  split
  next p tick thetaP rest hfront =>
    split
    · refine (leads_next _ _).2 (arrivals_of_windows h (fun q => .refl _) ?_ rfl rfl rfl)
      rw [hfront]
      exact List.sublist_cons_self _ _
    · refine (leads_next _ _).2 (arrivals_of_sublist h (fun q => ?_) (.refl _) rfl)
      simp only [takenArrivals, State.setDrift_dmon, State.setDrift_net, State.onNet_net, State.onNet_dmon, hfront,
        List.filterMap_cons, sampleArrival]
      by_cases hq : p = q
      · subst hq
        have happended : ((appendSample tick thetaP s.dmon.drift[p]).window.map Prod.fst).Sublist
            (s.dmon.drift[p].window.map Prod.fst ++ [tick]) := by
          have hwindow : (appendSample tick thetaP s.dmon.drift[p]).window.Sublist (s.dmon.drift[p].window ++ [(tick, thetaP)]) := by
            unfold appendSample
            dsimp only
            split
            · exact List.drop_sublist _ _
            · exact .refl _
          simpa using hwindow.map Prod.fst
        have hall := happended.append_right (rest.filterMap (sampleArrival p) ++ s.net.handOffs.map HandOff.tick)
        simpa using hall
      · have hval : p.val ≠ q.val := Fin.val_ne_of_ne hq
        simp only [Fin.getElem_fin, Vector.getElem_set_ne _ _ hval, hq, if_false]
        exact .refl _
  · exact (leads_next _ _).2 h

/-- R90: a leave or window notice takes the window. -/
theorem windowEmptied_keeps {s : State} (h : ArrivalsInOrder s) {p : Station} {r : DriftRecord} (hr : r.window = [])
    {n : PeerNotice} {rest : List PeerNotice} (hfront : s.net.toDmon = n :: rest) :
    ArrivalsInOrder ((s.onNet fun m => { m with toDmon := rest }).setDrift p r) := by
  refine arrivals_of_windows h (fun q => ?_) ?_ rfl rfl rfl
  · rw [State.setDrift_dmon, State.onNet_dmon]
    exact setDrift_window (by rw [hr]; exact List.nil_sublist _) q
  · rw [hfront]
    exact List.sublist_cons_self _ _

/-! ## Every command -/

theorem span_keeps {s : State} (c : Instr) (hc : writes c = [.span]) (h : ArrivalsInOrder s) : Leads ArrivalsInOrder (exec c s) := by
  cases c
  case endOfSyncMark => exact endOfSyncMark_keeps h
  case bitTime sym => exact (leads_next _ _).2 (arrivals_onSpan h (spanArrivals_hearSymbol _ _ _))
  case accusationList =>
    change Leads _ (execAccusationList s)
    unfold execAccusationList
    split
    · exact (leads_next _ _).2 h
    · split
      · exact (leads_next _ _).2 h
      · exact (leads_next _ _).2 (arrivals_onSpan_same h rfl rfl)
  case beaconCompletion =>
    change Leads _ (execBeaconCompletion s)
    unfold execBeaconCompletion
    split
    · exact (leads_next _ _).2 h
    · split
      · exact (leads_next _ _).2 (arrivals_onSpan_same (f := fun sp => { backToWaiting sp with seq := sp.seq + 1 }) h rfl rfl)
      · exact (leads_next _ _).2 h
  case scheduledLaunch =>
    change Leads _ (execScheduledLaunch s)
    unfold execScheduledLaunch
    split
    · split
      · exact (leads_next _ _).2 (arrivals_onSpan_same h rfl rfl)
      · exact (leads_next _ _).2 h
    · exact (leads_next _ _).2 h
  case transmissionStart =>
    change Leads _ (execTransmissionStart s)
    unfold execTransmissionStart
    split
    · exact (leads_next _ _).2 (arrivals_onSpan_same h rfl rfl)
    · exact (leads_next _ _).2 h
  case mismatch =>
    change Leads _ (execMismatch s)
    unfold execMismatch
    split
    · refine (leads_next _ _).2 (arrivals_onSpan_same h ?_ ?_) <;> unfold abandonFrame <;> split <;> rfl
    · exact (leads_next _ _).2 h
  case deferralLimit =>
    change Leads _ (execDeferralLimit s)
    unfold execDeferralLimit
    split
    · exact (leads_next _ _).2 (arrivals_onSpan_same h rfl rfl)
    · exact (leads_next _ _).2 h
  all_goals exact absurd hc (by simp [writes])

theorem roundStartNotice_keeps {s : State} (h : ArrivalsInOrder s) : Leads ArrivalsInOrder (execRoundStartNotice s) := by
  have hsame (launch : Tick) (first : Bool) (sp : Span) :
      (takeRoundStart launch first sp).ended = sp.ended ∧ (takeRoundStart launch first sp).readings = sp.readings := by
    unfold takeRoundStart
    split
    · split <;> exact ⟨rfl, rfl⟩
    all_goals exact ⟨rfl, rfl⟩
  unfold execRoundStartNotice
  split
  · exact (leads_next _ _).2 h
  next r rest _ =>
    obtain ⟨hended, hreadings⟩ := hsame (r.tick + slotOffset s) r.first s.span
    exact (leads_next _ _).2 (arrivals_onSpan_same (s := s.onNet fun n => { n with roundStart := rest }) h hended hreadings)

/-- A reset leaves no arrival on its way. -/
theorem arrivalsInOrder_reset {t : State} (hwindow : ∀ p : Station, t.dmon.drift[p].window = []) (hto : t.net.toDmon = [])
    (hoffs : t.net.handOffs = []) (hended : t.span.ended = []) (hreadings : t.span.readings = none) : ArrivalsInOrder t := by
  intro p
  rw [arrivalTicks_eq, takenArrivals, spanArrivals, hwindow, hto, hoffs, hended, hreadings]
  simp

theorem exec_arrivalsInOrder (c : Instr) (s : State) (hcount : s.osc.tick + 1 < 2 ^ 64) (h : ArrivalsInOrder s) :
    Leads ArrivalsInOrder (exec c s) := by
  by_cases hc : ∀ b ∈ [Block.dmon, .toDmon, .handOffs, .span, .tick], b ∉ writes c
  · exact arrivalsInOrder_reads.exec_keeps hc h
  by_cases hspan : writes c = [.span]
  · exact span_keeps c hspan h
  by_cases hraises : writes c = [.dmon]
  · exact raises_keep c hraises h
  have hrequest {code : Byte} {act : State → State × Status × List Byte}
      (hact : ∀ t, ArrivalsInOrder t → ArrivalsInOrder (act t).1) : Leads ArrivalsInOrder (.next (takeRequest code act s)) :=
    (leads_next _ _).2 (arrivalsInOrder_reads.takeRequest_keeps (by simp) hact h)
  cases c
  case fullReset straps =>
    exact (leads_next _ _).2 (arrivalsInOrder_reset (fun p => by simp [State.resetWith, Dmon.reset, DriftRecord.reset])
      rfl rfl rfl rfl)
  case restart straps =>
    exact hrequest fun t _ => arrivalsInOrder_reset
      (fun p => by simp [takeRestart, restartAll, restartDmon, Dmon.reset, DriftRecord.reset]) rfl rfl rfl rfl
  case start =>
    refine hrequest fun t ht => ?_
    unfold takeStart
    split <;> exact ht
  case tick caps ref => exact tick_keeps caps ref hcount h
  case receptionEnd => exact receptionEnd_keeps h
  case roundStartNotice => exact roundStartNotice_keeps h
  case handOff => exact handOff_keeps h
  case silenceExpiry p => exact silenceExpiry_keeps p h
  case dissentNotice =>
    change Leads _ (execDissentNotice s)
    unfold execDissentNotice
    split
    · exact (leads_next _ _).2 h
    next d rest _ =>
      have hnone := leaves_no_arrival
        (stations.filter fun p => p ≠ s.svc.station && d.dissenters.contains p && barredByNotice s.ptab[p])
      rw [leads_next]
      refine arrivals_sendDmon (notes := dissentLeaves s.svc.station s.ptab d) h hnone ?_ ?_ ?_ ?_ ?_
      all_goals simp only [State.sendDmon_dmon, State.sendDmon_net, State.sendDmon_span, State.sendDmon_osc, State.onNet_dmon,
        State.onNet_net, State.onNet_span, State.onNet_osc]
  case sample => exact sample_keeps h
  case leaveNotice =>
    change Leads _ (execLeaveNotice s)
    unfold execLeaveNotice
    split
    next p rest hfront =>
      exact (leads_next _ _).2
        (windowEmptied_keeps (r := { s.dmon.drift[p] with window := [], fresh := false }) h rfl hfront)
    · exact (leads_next _ _).2 h
  case windowNotice =>
    change Leads _ (execWindowNotice s)
    unfold execWindowNotice
    split
    next p rest hfront =>
      exact (leads_next _ _).2 (windowEmptied_keeps (r := { s.dmon.drift[p] with window := [] }) h rfl hfront)
    · exact (leads_next _ _).2 h
  case review => exact review_keeps h
  case endOfSyncMark | bitTime | accusationList | beaconCompletion | scheduledLaunch | transmissionStart | mismatch
      | deferralLimit => exact absurd (by simp [writes]) hspan
  case fallbackNoticeAtDmon | duplicateNotice | raiseNotice | removalNotice | stepNoticeAtDmon =>
    exact absurd (by simp [writes]) hraises
  all_goals exact absurd (by simp [writes]) hc

/-- Settles O9: the warning list, the drift records and the order of arrivals, each kept by every command. -/
theorem warningListKept : Obligations.WarningListKept := by
  refine ⟨step_keeps (fun _ _ h => h) WarningLaws.exec_warningsStanding, fun s h => WarningLaws.warnings_length_le h,
    step_keeps (fun _ _ h => h) DriftLaws.exec_driftStanding, fun s t h hcount hstep => ?_⟩
  exact step_keeps_if (K := fun u => u.osc.tick + 1 < 2 ^ 64) (fun _ _ h => h) (fun _ _ h => h) exec_arrivalsInOrder h hcount hstep

end Sys2Proof.ArrivalLaws
end

section
/-! What is latched, and what a full reset leaves standing. -/

namespace Sys2Proof.LatchLaws

open Sys2Proof.Machine Sys2Proof.Frames

/-! ## The latches (R2, R24, R36, R64, R67) -/

/-- A request either only marks an overrun, or acts and is answered. -/
theorem leads_takeRequest {P : State → Prop} {code : Byte} {act : State → State × Status × List Byte} {s : State}
    (hoverrun : P s.overrunMark) (hact : ∀ status body, P ((act (s.beginRequest code)).1.answer status body)) :
    Leads P (.next (takeRequest code act s)) := by
  rw [leads_next]
  unfold takeRequest
  split
  · exact hoverrun
  · exact hact _ _

theorem exec_selection (c : Instr) (s : State) (hc : ∀ straps, c ≠ .fullReset straps) :
    Leads (fun t => s.osc.selection = .backup → t.osc.selection = .backup) (exec c s) := by
  by_cases hw : Block.selection ∉ writes c
  · refine (exec_changesOnly c s).mono fun t ht hs => ?_
    have hselection : t.osc.selection = s.osc.selection := ht .selection hw
    exact hselection.trans hs
  cases c
  case fullReset straps => exact (hc straps rfl).elim
  case primaryLost =>
    change Leads _ (execPrimaryLost s)
    unfold execPrimaryLost
    split
    · exact (leads_next _ _).2 fun _ => rfl
    · exact (leads_next _ _).2 id
  all_goals exact absurd (by simp [writes]) hw

/-- What a command may do to UNSET and the base. -/
def BaseLatched (c : Instr) (a b : Agu) : Prop :=
  (a.unset = false → b.unset = false)
    ∧ (b.unset ≠ a.unset → c = .roundClose ∨ ∃ sec ns u, c = .settime sec ns u)
    ∧ (b.base ≠ a.base ∨ b.baseTick ≠ a.baseTick →
        c = .roundClose ∨ c = .fallbackNoticeAtAgu ∨ ∃ sec ns u, c = .settime sec ns u)

theorem baseLatched_of_same {c : Instr} {a b : Agu} (hunset : b.unset = a.unset) (hbase : b.base = a.base)
    (htick : b.baseTick = a.baseTick) : BaseLatched c a b :=
  ⟨fun h => hunset.trans h, fun hne => (hne hunset).elim, fun hne => (hne.elim (· hbase) (· htick)).elim⟩

theorem exec_baseLatched (c : Instr) (s : State) (hc : ∀ straps, c ≠ .fullReset straps) :
    Leads (fun t => BaseLatched c s.agu t.agu) (exec c s) := by
  have hsame : BaseLatched c s.agu s.agu := baseLatched_of_same rfl rfl rfl
  by_cases hw : Block.agu ∉ writes c
  · refine (exec_changesOnly c s).mono fun t ht => ?_
    have hagu : t.agu = s.agu := ht .agu hw
    rw [hagu]
    exact hsame
  cases c
  case fullReset straps => exact (hc straps rfl).elim
  case restart straps =>
    exact leads_takeRequest hsame fun _ _ => baseLatched_of_same rfl rfl rfl
  case start =>
    refine leads_takeRequest hsame fun status body => ?_
    unfold takeStart
    split <;> exact baseLatched_of_same rfl rfl rfl
  case settime sec ns u =>
    have hsettime : (∃ sec' ns' u', Instr.settime sec ns u = .settime sec' ns' u') := ⟨sec, ns, u, rfl⟩
    refine leads_takeRequest hsame fun status body => ?_
    unfold takeSettime
    split
    · exact ⟨fun _ => rfl, fun _ => .inr hsettime, fun _ => .inr (.inr hsettime)⟩
    · exact hsame
  case roundClose =>
    change Leads _ (execRoundClose s)
    unfold execRoundClose
    split
    · refine (leads_next _ _).2 ⟨fun hset => ?_, fun _ => .inl rfl, fun _ => .inl rfl⟩
      change (if (closeOf s).correction.base.isSome then false else s.agu.unset) = false
      rw [hset, ite_self]
    · exact (leads_next _ _).2 hsame
  case fallbackNoticeAtAgu =>
    change Leads _ (execFallbackNoticeAtAgu s)
    unfold execFallbackNoticeAtAgu
    split
    · exact (leads_next _ _).2 ⟨id, fun hne => (hne rfl).elim, fun _ => .inr (.inl rfl)⟩
    · exact (leads_next _ _).2 hsame
  case stepNoticeAtAgu =>
    change Leads _ (execStepNoticeAtAgu s)
    unfold execStepNoticeAtAgu
    split
    · exact (leads_next _ _).2 hsame
    · exact (leads_next _ _).2 (baseLatched_of_same rfl rfl rfl)
  case completionNotice =>
    change Leads _ (execCompletionNotice s)
    unfold execCompletionNotice
    split
    · exact (leads_next _ _).2 hsame
    · exact (leads_next _ _).2 (baseLatched_of_same rfl rfl rfl)
  case endOfListen =>
    change Leads _ (execEndOfListen s)
    unfold execEndOfListen
    split
    · exact (leads_next _ _).2 (baseLatched_of_same rfl rfl rfl)
    · exact (leads_next _ _).2 hsame
  all_goals exact absurd (by simp [writes]) hw

/-- What a command may do to MUTED and the beacon sequence. -/
def SpanLatched (c : Instr) (sp sp' : Span) : Prop :=
  (sp.tx = .muted → sp'.tx ≠ .muted → ∃ straps, c = .restart straps)
    ∧ (sp'.seq ≠ sp.seq → c = .beaconCompletion ∧ sp'.seq = sp.seq + 1)

/-- MUTED is not left, and the sequence stays. -/
theorem spanLatched_of_same {c : Instr} {sp sp' : Span} (htx : sp.tx = .muted → sp'.tx = .muted) (hseq : sp'.seq = sp.seq) :
    SpanLatched c sp sp' :=
  ⟨fun hm hne => (hne (htx hm)).elim, fun hne => (hne hseq).elim⟩

theorem seq_hearSymbol (station : Station) (sym : LineSymbol) (sp : Span) : (hearSymbol station sym sp).seq = sp.seq := by
  have hreach : (reachCount sp).seq = sp.seq := by
    unfold reachCount
    split <;> rfl
  have hmatch (n : Nat) (b : Bool) (sp' : Span) : (matchSync n b sp').seq = sp'.seq := by
    unfold matchSync
    split
    · split <;> rfl
    · rfl
  have hreceive (sp' : Span) : (receiveSymbol sym sp').seq = sp'.seq := by
    unfold receiveSymbol
    split
    case h_5 b _ => exact hmatch 0 b sp'
    case h_8 n b _ => exact hmatch n b sp'
    case h_11 => split <;> rfl
    all_goals rfl
  have hcompare (driven : Option Bool) (sp' : Span) : (compareDriven driven sym sp').seq = sp'.seq := by
    unfold compareDriven
    split
    · rfl
    · split <;> rfl
  exact ((hcompare _ _).trans (hreceive _)).trans hreach

theorem execReceptionEnd_latched (s : State) :
    Leads (fun t => SpanLatched .receptionEnd s.span t.span) (execReceptionEnd s) := by
  unfold execReceptionEnd
  split
  · exact (leads_next _ _).2 (spanLatched_of_same id rfl)
  · dsimp only
    split
    · rw [leads_next]
      unfold State.classFrame
      split
      · split
        · exact spanLatched_of_same id rfl
        · unfold State.hearDuplicate
          split
          · exact spanLatched_of_same id rfl
          · exact spanLatched_of_same id rfl
          · exact spanLatched_of_same (fun _ => rfl) rfl
      · split
        · exact spanLatched_of_same id rfl
        · split <;> exact spanLatched_of_same id rfl
    · exact (leads_next _ _).2 (spanLatched_of_same id rfl)

theorem exec_spanLatched (c : Instr) (s : State) (hc : ∀ straps, c ≠ .fullReset straps) :
    Leads (fun t => SpanLatched c s.span t.span) (exec c s) := by
  have hsame : SpanLatched c s.span s.span := spanLatched_of_same id rfl
  by_cases hw : Block.span ∉ writes c
  · refine (exec_changesOnly c s).mono fun t ht => ?_
    have hspan : t.span = s.span := ht .span hw
    rw [hspan]
    exact hsame
  cases c
  case fullReset straps => exact (hc straps rfl).elim
  case restart straps =>
    exact leads_takeRequest hsame fun _ _ => ⟨fun _ _ => ⟨straps, rfl⟩, fun hne => (hne rfl).elim⟩
  case bitTime sym =>
    refine (leads_next _ _).2 (spanLatched_of_same (fun hm => ?_) (seq_hearSymbol _ _ _))
    exact (SpanLaws.txKept_hearSymbol _ _ _).1.trans hm
  case receptionEnd => exact execReceptionEnd_latched s
  case endOfSyncMark =>
    change Leads _ (execEndOfSyncMark s)
    unfold execEndOfSyncMark
    split
    · exact (leads_next _ _).2 (spanLatched_of_same id rfl)
    · exact (leads_next _ _).2 hsame
  case accusationList =>
    change Leads _ (execAccusationList s)
    unfold execAccusationList
    split
    · exact (leads_next _ _).2 hsame
    · split
      · exact (leads_next _ _).2 hsame
      · exact (leads_next _ _).2 (spanLatched_of_same id rfl)
  case roundStartNotice =>
    change Leads _ (execRoundStartNotice s)
    unfold execRoundStartNotice
    split
    · exact (leads_next _ _).2 hsame
    next r rest _ =>
      refine (leads_next _ _).2 (spanLatched_of_same (fun hm => ?_) ?_)
      · simp [takeRoundStart, hm]
      · simp only [State.onSpan_span, State.onNet_span, takeRoundStart]
        cases s.span.tx <;> cases r.first <;> rfl
  case scheduledLaunch =>
    change Leads _ (execScheduledLaunch s)
    unfold execScheduledLaunch
    split
    next htx _ =>
      split
      · exact (leads_next _ _).2 (spanLatched_of_same (fun hm => by simp [htx] at hm) rfl)
      · exact (leads_next _ _).2 hsame
    · exact (leads_next _ _).2 hsame
  case transmissionStart =>
    change Leads _ (execTransmissionStart s)
    unfold execTransmissionStart
    split
    next hp => exact (leads_next _ _).2 (spanLatched_of_same (fun hm => by simp [startPermitted, hm] at hp) rfl)
    · exact (leads_next _ _).2 hsame
  case mismatch =>
    change Leads _ (execMismatch s)
    unfold execMismatch
    split
    next hp =>
      refine (leads_next _ _).2 (spanLatched_of_same (fun hm => by simp [hm] at hp) ?_)
      simp only [State.onSpan_span, abandonFrame]
      split <;> rfl
    · exact (leads_next _ _).2 hsame
  case deferralLimit =>
    change Leads _ (execDeferralLimit s)
    unfold execDeferralLimit
    split
    next hp => exact (leads_next _ _).2 (spanLatched_of_same (fun hm => by simp [deferralPassed, hm] at hp) rfl)
    · exact (leads_next _ _).2 hsame
  case beaconCompletion =>
    change Leads _ (execBeaconCompletion s)
    unfold execBeaconCompletion
    split
    · exact (leads_next _ _).2 hsame
    · split
      next hp =>
        exact (leads_next _ _).2 ⟨fun hm => by simp [frameSent, driverSending, hm] at hp, fun _ => ⟨rfl, rfl⟩⟩
      · exact (leads_next _ _).2 hsame
  all_goals exact absurd (by simp [writes]) hw

/-- Settles O4, by the three latches of OSCMON, AGU and SPAN. -/
theorem latchedStandings : Obligations.LatchedStandings := by
  intro c s t hst hc
  obtain ⟨hunset, hcleared, hbase⟩ := (exec_baseLatched c s hc).of_next hst
  obtain ⟨hmuted, hseq⟩ := (exec_spanLatched c s hc).of_next hst
  exact ⟨(exec_selection c s hc).of_next hst, hunset, hcleared, hbase, hmuted, hseq⟩

/-! ## A full reset (R16) -/

theorem portStanding_reset (straps : Straps) : PortStanding (State.resetWith straps) :=
  ⟨iff_of_false nofun nofun, iff_of_false nofun nofun, nofun, nofun⟩

/-- Settles O11: each invariant by the lemma that its block's laws give for a reset. -/
theorem invariantsHoldAtReset : Obligations.InvariantsHoldAtReset := by
  intro straps
  refine ⟨?clock, ?span, ?peers, ?capture, ?warnings, ?schedule, portStanding_reset straps, ?agreement, ?anchor, ?drift, ?arrivals⟩
  case clock => exact ClockLaws.clockBounds_reset straps rfl rfl rfl ⟨rfl, rfl, rfl⟩
  case span =>
    refine (SpanLaws.spanStanding_iff _).2 ⟨?_, fun _ => ⟨rfl, rfl, .inl rfl⟩⟩
    exact ⟨by simp [State.resetWith, Span.reset], Nat.zero_le _, Nat.zero_le _, by simp [State.resetWith, Span.reset]⟩
  case peers => exact PeerLaws.peerTableStanding_absent (fun p => by simp [State.resetWith]) rfl
  case capture =>
    exact (CaptureLaws.captureStanding_iff _).2 ⟨CaptureLaws.queueInRange_nil _,
      CaptureLaws.linksGood_unguarded fun l => by simp [State.resetWith, Capu.reset, CapLine.reset], fun _ => rfl⟩
  case warnings => exact WarningLaws.warningListGood_nil _
  case schedule => exact Schedule.scheduleStanding_reset straps
  case agreement =>
    exact (AgreementLaws.agreementStanding_iff _).2 ⟨AgreementLaws.aguInRange_reset, iff_of_false (fun hne => hne rfl) nofun⟩
  case anchor => exact (AnchorLaws.anchorStanding_iff _).2 ⟨AnchorLaws.anchInRange_reset, fun _ => rfl⟩
  case drift => exact DriftLaws.driftStanding_reset (ws := []) rfl nofun
  case arrivals =>
    exact ArrivalLaws.arrivalsInOrder_reset (fun p => by simp [State.resetWith, Dmon.reset, DriftRecord.reset]) rfl rfl rfl rfl

end Sys2Proof.LatchLaws
end

section
/-! Bits and bytes: requests and beacons read back as they were written. -/

namespace Sys2Proof.WireLaws

open Sys2Proof.Machine Sys2Proof.Frames

/-! ## Fields in a row of bytes -/

/-- The bytes of a field that begins behind `xs`. -/
theorem slice_append {xs bs : List Byte} {off n : Nat} (h : xs.length ≤ off) :
    ((xs ++ bs).drop off).take n = (bs.drop (off - xs.length)).take n := by
  rw [List.drop_append, List.drop_eq_nil_of_le h, List.nil_append]

theorem slice_beBytes (n v : Nat) (bs : List Byte) : ((beBytes n v ++ bs).drop 0).take n = beBytes n v := by
  rw [List.drop_zero, List.take_left' (beBytes_length n v)]

theorem fieldOf_skip {w : Nat} {xs bs : List Byte} {off n : Nat} (h : xs.length ≤ off) :
    fieldOf w (xs ++ bs) off n = fieldOf w bs (off - xs.length) n := by
  simp only [fieldOf, slice_append h]

theorem fieldOf_cons {w : Nat} (b : Byte) (bs : List Byte) (off n : Nat) : fieldOf w (b :: bs) (off + 1) n = fieldOf w bs off n :=
  rfl

theorem fieldOf_byte (b : Byte) (bs : List Byte) : fieldOf 8 (b :: bs) 0 1 = b := by
  simp [fieldOf, beNat]

theorem fieldOf_beBytes {w n : Nat} (hw : 2 ^ w = 256 ^ n) (v : BitVec w) (bs : List Byte) :
    fieldOf w (beBytes n v.toNat ++ bs) 0 n = v := by
  rw [fieldOf, slice_beBytes, beNat_beBytes (hw ▸ v.isLt)]
  simp

/-! ## Requests read back (R168, R170, R180) -/

theorem decodeItems_encodeItem (items : List CfgItem) (extra : List Byte) :
    decodeItems items.length (items.flatMap encodeItem ++ extra) = some items := by
  induction items with
  | nil => rfl
  | cons i items ih =>
    have hvalue := fieldOf_beBytes (w := 32) (n := 4) (by decide) i.value []
    rw [List.append_nil] at hvalue
    have hbytes : encodeItem i ++ (items.flatMap encodeItem ++ extra) =
        i.selector :: i.index :: (beBytes 4 i.value.toNat ++ (items.flatMap encodeItem ++ extra)) := rfl
    rw [List.flatMap_cons, List.append_assoc, hbytes, List.length_cons]
    simp only [beBytes, List.cons_append, List.nil_append, decodeItems, ih, Option.map_some] at hvalue ⊢
    rw [hvalue]

theorem encodeItem_length (i : CfgItem) : (encodeItem i).length = 6 := by simp [encodeItem]

theorem flatMap_encodeItem_length (items : List CfgItem) : (items.flatMap encodeItem).length = 6 * items.length := by
  induction items with
  | nil => rfl
  | cons i items ih =>
    rw [List.flatMap_cons, List.length_append, encodeItem_length, ih, List.length_cons]
    omega

theorem decodeItems_short {n : Nat} {bs : List Byte} (h : bs.length < 6 * n) : decodeItems n bs = none := by
  induction n generalizing bs with
  | zero => omega
  | succ n ih =>
    unfold decodeItems
    split
    · rw [ih (by simp only [List.length_cons] at h; omega)]
      rfl
    · rfl

theorem encodeStage_length (a : StageArgs) : (encodeStage a).length = 37 := by
  unfold encodeStage
  cases a.fire <;> simp

theorem decodeStage_encodeStage (a : StageArgs) (extra : List Byte) : decodeStage (encodeStage a ++ extra) = a := by
  obtain ⟨entry, mode, fire, period, count, reload, output, width, guard, bound, chain, report⟩ := a
  rcases fire with _ | ⟨sec, ns⟩ <;> cases report
  all_goals simp [decodeStage, encodeStage, fieldOf_cons, fieldOf_skip, fieldOf_byte, fieldOf_beBytes, List.append_assoc]

theorem withArguments_short {code : Byte} {need : Nat} {args : List Byte} (h : args.length < need) (c : Instr) :
    withArguments code need args c = .unknownRequest code := if_pos h

/-- A request's bytes bring it, whatever follows them. -/
theorem decodeRequest_encode (straps : Straps) {c : Instr} (hwf : WellFormed c = true) (hst : ∀ st, c = .restart st → st = straps)
    {code : Byte} {args : List Byte} (henc : encodeRequest c = some (code :: args)) (extra : List Byte) :
    code ≠ 0x00 ∧ decodeRequest straps code (args ++ extra) = c := by
  cases c <;> cases henc
  case configure items =>
    have hcount : (BitVec.ofNat 8 items.length).toNat = items.length := by
      simp only [WellFormed, configureFits, decide_eq_true_eq] at hwf
      simp only [BitVec.toNat_ofNat]
      omega
    refine ⟨by decide, ?_⟩
    simp only [decodeRequest, if_true, List.cons_append, hcount, decodeItems_encodeItem]
  case stage a =>
    refine ⟨by decide, ?_⟩
    simp [decodeRequest, decodeStage_encodeStage, withArguments, encodeStage_length]
  case restart st => exact ⟨by decide, by simp [decodeRequest, hst st rfl]⟩
  all_goals
    refine ⟨by decide, ?_⟩
    simp [decodeRequest, withArguments, fieldOf_cons, fieldOf_skip, fieldOf_byte, fieldOf_beBytes, List.append_assoc,
      ← Nat.add_assoc]

theorem decodeTransaction_of_ne {straps : Straps} {code : Byte} (hcode : code ≠ 0x00) (args : List Byte) :
    decodeTransaction straps (code :: args) = .request (decodeRequest straps code args) := if_neg hcode

theorem encodeRequest_cons {c : Instr} {bs : List Byte} (h : encodeRequest c = some bs) : ∃ code args, bs = code :: args := by
  cases c <;> cases h <;> exact ⟨_, _, rfl⟩

/-- Settles O12. -/
theorem requestsRoundTrip : Obligations.RequestsRoundTrip := by
  intro straps c bs hwf hst henc
  obtain ⟨code, args, rfl⟩ := encodeRequest_cons henc
  obtain ⟨hcode, hdecode⟩ := decodeRequest_encode straps hwf hst henc []
  rw [List.append_nil] at hdecode
  rw [decodeTransaction_of_ne hcode, hdecode]

/-! ## Extra, missing and cut-off bytes (R167, R170) -/

/-- A request cut short is an UNKNOWN_REQUEST of its code. -/
theorem decodeRequest_short (straps : Straps) {c : Instr} (hwf : WellFormed c = true) {code : Byte} {args : List Byte}
    (henc : encodeRequest c = some (code :: args)) {n : Nat} (hn : n < args.length) :
    decodeRequest straps code (args.take n) = .unknownRequest code := by
  have htake : (args.take n).length = n := List.length_take_of_le hn.le
  cases c <;> cases henc
  case configure items =>
    have hcount : (BitVec.ofNat 8 items.length).toNat = items.length := by
      simp only [WellFormed, configureFits, decide_eq_true_eq] at hwf
      simp only [BitVec.toNat_ofNat]
      omega
    cases n with
    | zero => rfl
    | succ n =>
      simp only [List.length_cons, flatMap_encodeItem_length] at hn
      have hshort : ((items.flatMap encodeItem).take n).length < 6 * items.length := by
        rw [List.length_take]
        omega
      simp only [decodeRequest, if_true, List.take_succ_cons, hcount, decodeItems_short hshort]
  case start | restart | date | peek | take | status | warnings => exact absurd hn (Nat.not_lt_zero n)
  case stage a =>
    rw [encodeStage_length] at hn
    simp [decodeRequest, withArguments, htake, hn]
  all_goals
    simp at hn
    simp [decodeRequest, withArguments, htake, hn]

theorem bitsOfByte_byteOfBits (b7 b6 b5 b4 b3 b2 b1 b0 : Bool) :
    bitsOfByte (byteOfBits [b7, b6, b5, b4, b3, b2, b1, b0]) = [b7, b6, b5, b4, b3, b2, b1, b0] := by
  decide +revert

theorem bitsOfByte_byteOfBits_of_length {bits : List Bool} (h : bits.length = 8) : bitsOfByte (byteOfBits bits) = bits := by
  match bits, h with
  | [_, _, _, _, _, _, _, _], _ => exact bitsOfByte_byteOfBits _ _ _ _ _ _ _ _

theorem bitsOfByte_getElem? (b : Byte) {j : Nat} (hj : j < 8) : (bitsOfByte b)[j]? = some (b.getLsbD (7 - j)) := by
  interval_cases j <;> rfl

/-- R167: the bytes gathered hold the transaction's bits, most significant first. -/
theorem shiftedIn_bits {mosi : List Bool} {k : Nat} {byte : Byte} (h : (shiftedIn mosi)[k / 8]? = some byte) :
    mosi[k]? = some (byte.getLsbD (7 - k % 8)) := by
  have hk : k / 8 < mosi.length / 8 := by
    have hlen := (List.getElem?_eq_some_iff.1 h).1
    rwa [shiftedIn_length] at hlen
  rw [shiftedIn, bytesOfBits_getElem? hk, Option.some.injEq] at h
  have hbits : ((mosi.drop (8 * (k / 8))).take 8).length = 8 := by
    rw [List.length_take, List.length_drop]
    omega
  rw [← bitsOfByte_getElem? byte (Nat.mod_lt k (by decide)), ← h, bitsOfByte_byteOfBits_of_length hbits,
    List.getElem?_take_of_lt (Nat.mod_lt k (by decide)), List.getElem?_drop, Nat.div_add_mod]

theorem decodeRequest_unlisted (straps : Straps) (args : List Byte) {code : Byte}
    (h : code ∉ [(0x00 : Byte), 0x01, 0x02, 0x03, 0x04, 0x05, 0x10, 0x11, 0x12, 0x13, 0x20, 0x21, 0x22, 0x23, 0x30, 0x31, 0x32,
      0x33]) :
    decodeTransaction straps (code :: args) = .request (.unknownRequest code) := by
  simp only [List.mem_cons, List.not_mem_nil, or_false, not_or] at h
  obtain ⟨h00, h01, h02, h03, h04, h05, h10, h11, h12, h13, h20, h21, h22, h23, h30, h31, h32, h33⟩ := h
  rw [decodeTransaction_of_ne h00]
  simp only [decodeRequest, if_neg h01, if_neg h02, if_neg h03, if_neg h04, if_neg h05, if_neg h10, if_neg h11, if_neg h12,
    if_neg h13, if_neg h20, if_neg h21, if_neg h22, if_neg h23, if_neg h30, if_neg h31, if_neg h32, if_neg h33]

theorem decodeRequest_missing (straps : Straps) {args : List Byte} {code : Byte} {need : Nat}
    (h : (code, need) ∈ [((0x04 : Byte), 14), (0x05, 10), (0x13, 3), (0x20, 37), (0x21, 1), (0x22, 1), (0x23, 1), (0x31, 1),
      (0x33, 1)]) (hshort : args.length < need) :
    decodeTransaction straps (code :: args) = .request (.unknownRequest code) := by
  simp only [List.mem_cons, List.not_mem_nil, or_false, Prod.mk.injEq] at h
  rcases h with ⟨rfl, rfl⟩ | ⟨rfl, rfl⟩ | ⟨rfl, rfl⟩ | ⟨rfl, rfl⟩ | ⟨rfl, rfl⟩ | ⟨rfl, rfl⟩ | ⟨rfl, rfl⟩ | ⟨rfl, rfl⟩ | ⟨rfl, rfl⟩
  all_goals
    rw [decodeTransaction_of_ne (by decide)]
    simp only [decodeRequest, withArguments_short hshort, if_true, ite_self]
    rfl

/-- Settles O13. -/
theorem extraAndMissingBytes : Obligations.ExtraAndMissingBytes := by
  refine ⟨fun straps c code args hwf hst henc => ⟨fun extra => ?_, fun n hn => ?_⟩, fun straps mosi => ⟨?_, fun hshort => ?_, rfl⟩,
    fun straps args => ⟨rfl, rfl, fun code => decodeRequest_unlisted straps args,
      fun code need h hshort => decodeRequest_missing straps h hshort, rfl, fun count hshort => ?_⟩⟩
  · obtain ⟨hcode, hdecode⟩ := decodeRequest_encode straps hwf hst henc extra
    rw [List.cons_append, decodeTransaction_of_ne hcode, hdecode]
  · obtain ⟨hcode, -⟩ := decodeRequest_encode straps hwf hst henc []
    rw [decodeTransaction_of_ne hcode, decodeRequest_short straps hwf henc hn]
  · exact ⟨shiftedIn mosi, rfl, shiftedIn_length mosi, fun k byte => shiftedIn_bits⟩
  · have hnone : shiftedIn mosi = [] := by
      rw [← List.length_eq_zero_iff, shiftedIn_length]
      omega
    simp [transactionEnded, hnone, decodeTransaction]
  · rw [decodeTransaction_of_ne (by decide)]
    simp only [decodeRequest, if_true, decodeItems_short hshort]

/-! ## Beacons read back (R22, R178, R179) -/

theorem stationOfByte_stationByte (p : Station) : stationOfByte (stationByte p) = some p := by decide +revert

theorem stationsOfBytes_map (ps : List Station) : stationsOfBytes (ps.map stationByte) = some ps := by
  induction ps with
  | nil => rfl
  | cons p ps ih => simp only [List.map_cons, stationsOfBytes, stationOfByte_stationByte, ih]

theorem beaconFlagsOf_byte (f : BeaconFlags) : beaconFlagsOf (beaconFlagsByte f) = f := by
  obtain ⟨anchored, lone, holdover, humble, unset, stepped⟩ := f
  cases anchored <;> cases lone <;> cases holdover <;> cases humble <;> cases unset <;> cases stepped <;> decide

theorem periodOfCode_code (p : Period) : periodOfCode (BitVec.ofNat 8 p.code).toNat = some p := by cases p <;> rfl

/-- The body of a beacon, field by field. -/
theorem beaconBody_eq (station : Station) (f : LaunchFields) :
    beaconBody station f =
      stationByte station :: f.seq :: beaconFlagsByte f.flags :: BitVec.ofNat 8 f.code.code :: (beBytes 4 f.deferral
        ++ (beBytes 6 (f.stamp / Config.nsPerSecond) ++ (beBytes 4 (f.stamp % Config.nsPerSecond)
          ++ (beBytes 4 f.statedUnc
            ++ (BitVec.ofNat 8 (f.accusations.getD []).length :: (f.accusations.getD []).map stationByte))))) := by
  simp [beaconBody, List.append_assoc]

section
variable {station : Station} {f : LaunchFields} {acc : List Station} (hacc : f.accusations = some acc) (rest : List Byte)
include hacc

theorem beaconBody_length : (beaconBody station f).length = 23 + acc.length := by
  rw [beaconBody_eq]
  simp [hacc]
  omega

theorem beacon_count (hlen : acc.length ≤ 4) : ((beaconBody station f ++ rest).getD 22 0).toNat = acc.length := by
  have hcount : (beaconBody station f ++ rest).getD 22 0 = BitVec.ofNat 8 acc.length := by
    rw [beaconBody_eq, hacc, List.getD_eq_getElem?_getD]
    simp [List.getElem?_append_right]
  rw [hcount, BitVec.toNat_ofNat]
  omega

theorem beacon_accusations : ((beaconBody station f ++ rest).drop 23).take acc.length = acc.map stationByte := by
  rw [beaconBody_eq, hacc]
  simp [slice_append]

end

theorem beacon_deferral (station : Station) (f : LaunchFields) (rest : List Byte) :
    ((beaconBody station f ++ rest).drop 4).take 4 = beBytes 4 f.deferral := by
  rw [beaconBody_eq]
  simp

theorem beacon_seconds (station : Station) (f : LaunchFields) (rest : List Byte) :
    ((beaconBody station f ++ rest).drop 8).take 6 = beBytes 6 (f.stamp / Config.nsPerSecond) := by
  rw [beaconBody_eq]
  simp

theorem beacon_ns (station : Station) (f : LaunchFields) (rest : List Byte) :
    ((beaconBody station f ++ rest).drop 14).take 4 = beBytes 4 (f.stamp % Config.nsPerSecond) := by
  rw [beaconBody_eq]
  simp [slice_append]

theorem beacon_statedUnc (station : Station) (f : LaunchFields) (rest : List Byte) :
    ((beaconBody station f ++ rest).drop 18).take 4 = beBytes 4 f.statedUnc := by
  rw [beaconBody_eq]
  simp [slice_append]

/-- Settles O14. -/
theorem beaconRoundTrip : Obligations.BeaconRoundTrip := by
  intro station f acc hacc hlen hdeferral hstamp hunc
  have hcrc : (crc16 (beaconBody station f)).toNat < 256 ^ 2 := (crc16 (beaconBody station f)).isLt
  have hbytes : (beaconBytes station f).drop 2 = beaconBody station f ++ beBytes 2 (crc16 (beaconBody station f)).toNat := by
    simp [beaconBytes, syncBytes]
  have hbody := beaconBody_length (station := station) hacc
  generalize hrest : beBytes 2 (crc16 (beaconBody station f)).toNat = rest at hbytes
  have hrestlen : rest.length = 2 := by rw [← hrest, beBytes_length]
  have hcount := beacon_count (station := station) hacc rest hlen
  have htotal : (beaconBody station f ++ rest).length = 25 + acc.length := by
    rw [List.length_append, hbody, hrestlen]
    omega
  have hchecked : (crc16 ((beaconBody station f ++ rest).take (23 + acc.length))).toNat =
      beNat ((beaconBody station f ++ rest).drop (23 + acc.length)) := by
    rw [List.take_left' hbody, List.drop_left' hbody, ← hrest, beNat_beBytes hcrc]
  have hns : f.stamp % Config.nsPerSecond < Config.nsPerSecond := Nat.mod_lt _ (by decide)
  have hheader : (beaconBody station f ++ rest).getD 0 0 = stationByte station ∧ (beaconBody station f ++ rest).getD 1 0 = f.seq
      ∧ (beaconBody station f ++ rest).getD 2 0 = beaconFlagsByte f.flags
      ∧ (beaconBody station f ++ rest).getD 3 0 = BitVec.ofNat 8 f.code.code := by
    rw [beaconBody_eq]
    exact ⟨rfl, rfl, rfl, rfl⟩
  obtain ⟨h0, h1, h2, h3⟩ := hheader
  have hnsbytes : beNat (((beaconBody station f ++ rest).drop 14).take 4) = f.stamp % Config.nsPerSecond := by
    rw [beacon_ns, beNat_beBytes (by simp only [Config.nsPerSecond] at hns ⊢; omega)]
  have hsecbytes : beNat (((beaconBody station f ++ rest).drop 8).take 6) = f.stamp / Config.nsPerSecond := by
    rw [beacon_seconds, beNat_beBytes (by simp only [Config.nsPerSecond]; omega)]
  rw [hbytes]
  unfold parseFrame
  simp only [hcount, htotal, hchecked, h0, h1, h2, h3, hnsbytes, hsecbytes, beacon_accusations hacc, beacon_deferral,
    beacon_statedUnc, stationOfByte_stationByte, periodOfCode_code, stationsOfBytes_map, beaconFlagsOf_byte,
    beNat_beBytes (n := 4) hdeferral, beNat_beBytes (n := 4) hunc, if_pos hns, Nat.not_lt.2 hlen, ne_eq, not_true_eq_false,
    decide_false, Bool.or_self, Bool.false_eq_true, if_false, Nat.div_add_mod']

/-! ## Words written out (R179, R180) -/

/-- Settles O15: the check value and the words, evaluated. -/
theorem wordsFromTheManual : Obligations.WordsFromTheManual :=
  ⟨by decide +kernel, fun _ => ⟨rfl, rfl, rfl, rfl, rfl, rfl, rfl, rfl, rfl, rfl⟩⟩

end Sys2Proof.WireLaws
end

section
/-! The peer table as its statements give it: frames taken, the beat test, expiries, dissents. -/

namespace Sys2Proof.PeerMoves

open Sys2Proof.Machine Sys2Proof.Frames Sys2Proof.PeerLaws

/-! ## Half-widths and spans (R44, R48) -/

theorem beatHalfWidth_eq (p : Period) {accept : Nat} (h : accept ≤ 3) : (beatHalfWidth p accept : Int) = halfWidthNs p accept := by
  interval_cases accept <;> cases p <;> rfl

theorem ticksOfNs_eq (n : Nat) : (ticksOfNs n : Int) = -(-(n : Int) / 40) := by
  simp only [ticksOfNs, ceilDiv, Config.nsPerTick]
  omega

theorem silenceSpan_eq (p : Period) {accept : Nat} (h : accept ≤ 3) :
    (silenceSpan p accept : Int) = 4 * (p.ns / 40) - -(halfWidthNs p accept) / 40 := by
  rw [silenceSpan, Period.ticks_eq, ← beatHalfWidth_eq p h]
  push_cast
  rw [ticksOfNs_eq]
  ring

theorem profileAttrs_accept {img : Image} (h : SettingsInRange img) (p : Option ProfileSel) : (profileAttrs img p).accept ≤ 3 := by
  obtain ⟨-, hdflt, hwindows, -⟩ := (ClockLaws.settingsInRange_iff img).1 h
  obtain ⟨-, -, -, -, -, -, hdflt⟩ := hdflt
  match p with
  | none => exact hdflt
  | some .dflt => exact hdflt
  | some (.window w) =>
    obtain ⟨-, -, -, -, -, -, -, -, haccept⟩ := hwindows w
    exact haccept

/-! ## An accepted beacon (R46, R51 to R53) -/

theorem scheduledArrival_eq (h : HandOff) : scheduledArrival h = (h.tick : Int) - h.deferral / 40 := by
  simp [scheduledArrival, Config.nsPerTick]

theorem thetaOf_eq (a : ProfileAttrs) (h : HandOff) :
    thetaOf a h = max (-(2 ^ 47 - 1)) (min (2 ^ 47 - 1) ((h.launch : Int) + a.pathDelay - h.stamp)) :=
  satAbs_eq (by decide) _

theorem thetaP_eq (x : Int) : satAbs thetaPLimit x = max (-(2 ^ 63 - 1)) (min (2 ^ 63 - 1) x) := satAbs_eq (by decide) x

theorem observationOf_eq (a : ProfileAttrs) (h : HandOff) :
    observationOf a h =
      (let theta : Int := max (-(2 ^ 47 - 1)) (min (2 ^ 47 - 1) ((h.launch : Int) + a.pathDelay - h.stamp))
       { theta := theta
         eps0 := min 4294967295 (h.statedUnc + a.pathUnc + 80)
         thetaP := max (-(2 ^ 63 - 1)) (min (2 ^ 63 - 1) (theta + h.phaseTotal))
         arrivalTick := h.tick
         statedUnc := h.statedUnc
         flags := h.flags }) := by
  simp only [observationOf, eps0Of, satUnc, thetaP_eq, thetaOf_eq, Config.unbounded]

theorem acceptBeacon_eq (own : Station) {a : ProfileAttrs} (ha : a.accept ≤ 3) (link : LinkState) (inBeat dissent : Nat)
    (h : HandOff) {r : PeerRecord} (hd : (if r.link = .admitted && link ≠ .admitted then 0 else r.dissent) = dissent) :
    acceptBeacon own a link inBeat h r = acceptedRecord own a link inBeat dissent h r := by
  have hsilence : (h.tick : Int) - h.deferral / 40 + (silenceSpan h.period a.accept : Nat) =
      (h.tick : Int) - h.deferral / 40 + 4 * (h.period.ns / 40) - -(halfWidthNs h.period a.accept) / 40 := by
    rw [silenceSpan_eq _ ha]
    omega
  simp only [acceptBeacon, acceptedRecord, scheduledArrival_eq, hsilence, observationOf_eq, hd, List.contains_eq_mem]

/-- The dissent count that an accepted beacon leaves. -/
theorem dissent_after {r : PeerRecord} (hr : PeerRecordStanding r) (hbarred : r.link ≠ .barred) :
    (if r.link = .admitted && LinkState.listening ≠ .admitted then 0 else r.dissent) = 0 := by
  obtain ⟨-, -, hzero⟩ := unbarred_of_standing hr hbarred
  by_cases hadmitted : r.link = .admitted
  · simp [hadmitted]
  · simp [hadmitted, hzero hadmitted]

/-! ## HAND_OFF by its record (R43, R45) -/

/-- HAND_OFF, as what `takeFrame` makes of the record and sends. -/
theorem exec_handOff {s : State} {h : HandOff} {rest : List HandOff} (hfront : s.net.handOffs = h :: rest) {r' : PeerRecord}
    {notices : List PeerNotice}
    (htaken : takeFrame s.svc.station s.osc.tick (profileAttrs s.svc.image s.ptab[h.station].profile) h s.ptab[h.station] =
      (r', notices)) :
    exec .handOff s =
      .next
        { s with
          net := { s.net with handOffs := rest, toDmon := s.net.toDmon ++ notices }
          ptab := s.ptab.set h.station r' } := by
  change execHandOff s = _
  unfold execHandOff
  rw [hfront]
  dsimp only
  rw [htaken]
  rfl

theorem exec_handOff_ignored {s : State} {h : HandOff} {rest : List HandOff} (hfront : s.net.handOffs = h :: rest)
    (htaken : takeFrame s.svc.station s.osc.tick (profileAttrs s.svc.image s.ptab[h.station].profile) h s.ptab[h.station] =
      (s.ptab[h.station], [])) :
    exec .handOff s = .next { s with net := { s.net with handOffs := rest } } := by
  have hset : s.ptab.set h.station s.ptab[h.station] = s.ptab := by simp
  rw [exec_handOff hfront htaken, hset, List.append_nil]

theorem sequenceStep_eq_zero_iff (r : PeerRecord) (h : HandOff) : sequenceStep r h = 0 ↔ h.seq = r.lastSeq := by
  unfold sequenceStep
  rw [← BitVec.toNat_inj (x := h.seq), BitVec.toNat_sub]
  have hseq := h.seq.isLt
  have hlast := r.lastSeq.isLt
  omega

section
variable {own : Station} {tick : Tick} {a : ProfileAttrs} {h : HandOff} {r : PeerRecord}

theorem takeFrame_barred (hl : r.link = .barred) : takeFrame own tick a h r = (r, []) := by simp [takeFrame, hl]

theorem takeFrame_first (hl : r.link = .absent ∨ r.link = .listening ∧ r.inBeat = 0) :
    takeFrame own tick a h r = (acceptBeacon own a .listening 1 h r, []) := by
  rcases hl with hl | ⟨hl, hbeat⟩
  · simp [takeFrame, hl]
  · simp [takeFrame, hl, hbeat]

theorem takeFrame_repeat (hl : r.link = .listening ∧ r.inBeat = 1 ∨ r.link = .admitted ∨ r.link = .silent)
    (hseq : h.seq = r.lastSeq) : takeFrame own tick a h r = (r, []) := by
  have hstep := (sequenceStep_eq_zero_iff r h).2 hseq
  rcases hl with ⟨hl, hbeat⟩ | hl | hl
  · simp [takeFrame, hl, hbeat, hstep]
  · simp [takeFrame, hl, hstep]
  · simp [takeFrame, hl, hstep]

theorem takeFrame_tested (hl : r.link = .listening ∧ r.inBeat = 1 ∨ r.link = .admitted ∨ r.link = .silent)
    (hseq : h.seq ≠ r.lastSeq) : takeFrame own tick a h r = testedBeacon own tick a h r := by
  have hstep := mt (sequenceStep_eq_zero_iff r h).1 hseq
  rcases hl with ⟨hl, hbeat⟩ | hl | hl
  · simp [takeFrame, hl, hbeat, hstep]
  · simp [takeFrame, hl, hstep]
  · simp [takeFrame, hl, hstep]

end

/-- Settles O30: barred, first beacon and repeat. -/
theorem firstBeaconTaken : Obligations.FirstBeaconTaken := by
  intro h rest s hfront hstanding hset r taken
  have hr := hstanding.1 h.station
  refine ⟨fun hl => exec_handOff_ignored hfront (takeFrame_barred hl), fun hl => ?_,
    fun hl hseq => exec_handOff_ignored hfront (takeFrame_repeat hl hseq)⟩
  have hbarred : r.link ≠ .barred := by
    rcases hl with hl | ⟨hl, -⟩ <;> rw [hl] <;> nofun
  rw [exec_handOff hfront (takeFrame_first hl),
    acceptBeacon_eq _ (profileAttrs_accept hset _) .listening 1 0 h (dissent_after hr hbarred), List.append_nil]

/-! ## The beat test (R44) -/

theorem beatDifference_eq (p : Period) (r : PeerRecord) (h : HandOff) : beatDifference p r h = beatOffsetNs p r h := by
  have hstep : (sequenceStep r h : Int) = (h.seq.toNat - r.lastSeq.toNat : Int) % 256 := by
    have hseq := h.seq.isLt
    have hlast := r.lastSeq.isLt
    rw [sequenceStep, BitVec.toNat_sub]
    omega
  rw [beatDifference, beatOffsetNs, scheduledArrival_eq, Period.ticks_eq]
  push_cast
  rw [hstep]

section
variable {p : Period} {r : PeerRecord} {h : HandOff} {accept : Nat} (hp : r.interval = some p) (ha : accept ≤ 3)
include hp ha

theorem beatTest_inBeat (hperiod : h.period = p) (hlo : -halfWidthNs p accept ≤ beatOffsetNs p r h)
    (hhi : beatOffsetNs p r h ≤ halfWidthNs p accept) : beatTest accept r h = .inBeat := by
  simp [beatTest, hp, hperiod, beatDifference_eq, beatHalfWidth_eq p ha, not_lt.2 hlo, not_lt.2 hhi]

theorem beatTest_early (hperiod : h.period = p) (hlo : beatOffsetNs p r h < -halfWidthNs p accept) :
    beatTest accept r h = .early := by
  simp [beatTest, hp, hperiod, beatDifference_eq, beatHalfWidth_eq p ha, hlo]

theorem beatTest_late (hlate : h.period ≠ p ∨ halfWidthNs p accept < beatOffsetNs p r h) : beatTest accept r h = .late := by
  by_cases hperiod : h.period = p
  · have hhi := hlate.resolve_left (not_not.2 hperiod)
    have hwidth : (0 : Int) ≤ halfWidthNs p accept := by
      rw [← beatHalfWidth_eq p ha]
      exact Int.natCast_nonneg _
    have hlo : ¬beatOffsetNs p r h < -halfWidthNs p accept := by omega
    simp [beatTest, hp, hperiod, beatDifference_eq, beatHalfWidth_eq p ha, hlo, hhi]
  · simp [beatTest, hp, Ne.symm hperiod]

/-- Early or late, a beacon is not in beat. -/
theorem beatTest_off (hoff : h.period ≠ p ∨ beatOffsetNs p r h < -halfWidthNs p accept ∨ halfWidthNs p accept < beatOffsetNs p r h) :
    beatTest accept r h ≠ .inBeat := by
  rcases hoff with hperiod | hlo | hhi
  · rw [beatTest_late hp ha (.inl hperiod)]
    nofun
  · by_cases hperiod : h.period = p
    · rw [beatTest_early hp ha hperiod hlo]
      nofun
    · rw [beatTest_late hp ha (.inl hperiod)]
      nofun
  · rw [beatTest_late hp ha (.inr hhi)]
    nofun

end

section
variable {own : Station} {tick : Tick} {a : ProfileAttrs} {h : HandOff} {r : PeerRecord}

theorem testedBeacon_listening_inBeat (hl : r.link = .listening) (hb : beatTest a.accept r h = .inBeat) :
    testedBeacon own tick a h r = (acceptBeacon own a .admitted 2 h r, [sampleOf a h]) := by simp [testedBeacon, hl, hb]

theorem testedBeacon_listening_off (hl : r.link = .listening) (hb : beatTest a.accept r h ≠ .inBeat) :
    testedBeacon own tick a h r = (acceptBeacon own a .listening 1 h r, []) := by
  cases hbeat : beatTest a.accept r h <;> simp_all [testedBeacon]

theorem testedBeacon_admitted_inBeat (hl : r.link = .admitted) (hb : beatTest a.accept r h = .inBeat) :
    testedBeacon own tick a h r = (acceptBeacon own a .admitted 2 h r, windowIfStepped h ++ [sampleOf a h]) := by
  simp [testedBeacon, hl, hb]

theorem testedBeacon_admitted_early (hl : r.link = .admitted) (hb : beatTest a.accept r h = .early) :
    testedBeacon own tick a h r = (barRecord tick r, [.leave h.station]) := by simp [testedBeacon, hl, hb]

theorem testedBeacon_admitted_late (hl : r.link = .admitted) (hb : beatTest a.accept r h = .late) :
    testedBeacon own tick a h r = (acceptBeacon own a .listening 1 h r, [.leave h.station]) := by simp [testedBeacon, hl, hb]

theorem testedBeacon_silent (hl : r.link = .silent) : testedBeacon own tick a h r = (acceptBeacon own a .listening 1 h r, []) := by
  simp [testedBeacon, hl]

theorem barRecord_eq {p : Period} (hp : r.interval = some p) : barRecord tick r = barredRecord tick p r := by
  simp [barRecord, barredRecord, hp, Period.ticks_eq]

end

/-- Settles O31: the outcomes of the beat test by link state. -/
theorem beatTestOutcomes : Obligations.BeatTestOutcomes := by
  intro h rest s p hfront hstanding hset hp hseq r a d half accepted after sample
  have ha : a.accept ≤ 3 := profileAttrs_accept hset _
  have hr : PeerRecordStanding r := hstanding.1 h.station
  have hlistening (hb : r.link ≠ .barred) : acceptBeacon s.svc.station a .listening 1 h r = accepted .listening 1 0 :=
    acceptBeacon_eq _ ha _ _ _ h (dissent_after hr hb)
  have hadmitted : acceptBeacon s.svc.station a .admitted 2 h r = accepted .admitted 2 r.dissent :=
    acceptBeacon_eq _ ha _ _ _ h (by simp)
  have hsample (dissent : Nat) : [sampleOf a h] = sample (accepted .admitted 2 dissent) := by
    have hobs : (accepted .admitted 2 dissent).obs = some (observationOf a h) := by
      have hacc := acceptBeacon_eq (r := { r with link := .admitted, dissent := dissent }) s.svc.station ha .admitted 2 dissent h
        (by simp)
      exact (congrArg PeerRecord.obs hacc).symm
    simp only [sample, hobs]
    rfl
  refine ⟨fun hl hbeat => ⟨fun hperiod hlo hhi => ?_, fun hoff => ?_⟩,
    fun hl => ⟨fun hperiod hlo hhi => ?_, fun hperiod hlo => ?_, fun hoff => ?_⟩, fun hl => ?_⟩
  · have hzero : r.dissent = 0 := ((peerRecordStanding_of_listening hl).1 hr).2.1
    have htaken := (takeFrame_tested (own := s.svc.station) (tick := s.osc.tick) (a := a) (.inl ⟨hl, hbeat⟩) hseq).trans
      (testedBeacon_listening_inBeat hl (beatTest_inBeat hp ha hperiod hlo hhi))
    rw [hadmitted, hzero, hsample 0] at htaken
    exact exec_handOff hfront htaken
  · have htaken := (takeFrame_tested (own := s.svc.station) (tick := s.osc.tick) (a := a) (.inl ⟨hl, hbeat⟩) hseq).trans
      (testedBeacon_listening_off hl (beatTest_off hp ha hoff))
    rw [hlistening (by rw [hl]; nofun)] at htaken
    exact exec_handOff hfront htaken
  · have htaken := (takeFrame_tested (own := s.svc.station) (tick := s.osc.tick) (a := a) (.inr (.inl hl)) hseq).trans
      (testedBeacon_admitted_inBeat hl (beatTest_inBeat hp ha hperiod hlo hhi))
    rw [hadmitted, hsample r.dissent] at htaken
    exact exec_handOff hfront htaken
  · have htaken := (takeFrame_tested (own := s.svc.station) (tick := s.osc.tick) (a := a) (.inr (.inl hl)) hseq).trans
      (testedBeacon_admitted_early hl (beatTest_early hp ha hperiod hlo))
    rw [barRecord_eq hp] at htaken
    exact exec_handOff hfront htaken
  · have htaken := (takeFrame_tested (own := s.svc.station) (tick := s.osc.tick) (a := a) (.inr (.inl hl)) hseq).trans
      (testedBeacon_admitted_late hl (beatTest_late hp ha hoff))
    rw [hlistening (by rw [hl]; nofun)] at htaken
    exact exec_handOff hfront htaken
  · have htaken := (takeFrame_tested (own := s.svc.station) (tick := s.osc.tick) (a := a) (.inr (.inr hl)) hseq).trans
      (testedBeacon_silent hl)
    rw [hlistening (by rw [hl]; nofun)] at htaken
    exact exec_handOff hfront htaken

/-! ## Expiries (R47 to R49) -/

theorem exec_barExpiry_none {q : Station} {s : State} (h : s.ptab[q].link ≠ .barred ∨ ∀ t ∈ s.ptab[q].barExpiry, s.osc.tick < t) :
    exec (.barExpiry q) s = .next s := by
  change execBarExpiry q s = _
  unfold execBarExpiry
  dsimp only
  split
  next t hlink hbar => rw [if_neg (Nat.not_le.2 ((h.resolve_left (not_not.2 hlink)) t hbar))]
  · rfl

theorem exec_silenceExpiry_none {q : Station} {s : State}
    (h : s.ptab[q].link = .absent ∨ s.ptab[q].link = .barred ∨ ∀ e ∈ s.ptab[q].silenceExpiry, (s.osc.tick : Int) < e) :
    exec (.silenceExpiry q) s = .next s := by
  change execSilenceExpiry q s = _
  unfold execSilenceExpiry
  dsimp only
  split
  · rfl
  next e he =>
    split
    next hle =>
      rcases h with hl | hl | hlt
      · rw [hl]
      · rw [hl]
      · exact absurd hle (Int.not_le.2 (hlt e he))
    · rfl

theorem releaseBar_eq {p : Period} {r : PeerRecord} (hp : r.interval = some p) {accept : Nat} (ha : accept ≤ 3) (t : Tick) :
    releaseBar accept t r =
      { r with
        link := .listening
        inBeat := 0
        barExpiry := none
        silenceExpiry := some (t + 4 * (p.ns / 40) - -(halfWidthNs p accept) / 40) } := by
  have hspan : ((t + silenceSpan p accept : Nat) : Int) = t + 4 * (p.ns / 40) - -(halfWidthNs p accept) / 40 := by
    push_cast
    rw [silenceSpan_eq p ha]
    omega
  simp only [releaseBar, hp, Option.map_some, Option.getD_some, hspan]

theorem fallSilent_eq {p : Period} {r : PeerRecord} (hp : r.interval = some p) (e : Int) :
    fallSilent e r =
      { r with link := .silent, inBeat := 0, dissent := 0, silenceExpiry := some (e + 60 * (p.ns / 40)) } := by
  simp [fallSilent, hp, Period.ticks_eq]

/-- Settles O32. -/
theorem expiriesTaken : Obligations.ExpiriesTaken := by
  refine ⟨fun q s => ⟨exec_barExpiry_none, exec_silenceExpiry_none⟩, fun q p s hstanding hset hp => ?_⟩
  intro r a
  refine ⟨fun t hl hbar hle => ?_, fun e he hle => ?_⟩
  · change execBarExpiry q s = _
    rw [← releaseBar_eq hp (profileAttrs_accept hset _)]
    simp only [execBarExpiry, show s.ptab[q].link = .barred from hl, show s.ptab[q].barExpiry = some t from hbar, if_pos hle]
    rfl
  intro silent
  refine ⟨fun hl => ?_, fun hl => ?_, fun hl => ?_⟩
  · change execSilenceExpiry q s = _
    have hsilent : fallSilent e r = silent := fallSilent_eq hp e
    simp only [execSilenceExpiry, show s.ptab[q].silenceExpiry = some e from he, if_pos hle,
      show s.ptab[q].link = .listening from hl]
    rw [← hsilent]
    rfl
  · change execSilenceExpiry q s = _
    have hsilent : fallSilent e r = silent := fallSilent_eq hp e
    simp only [execSilenceExpiry, show s.ptab[q].silenceExpiry = some e from he, if_pos hle,
      show s.ptab[q].link = .admitted from hl]
    rw [← hsilent]
    rfl
  · change execSilenceExpiry q s = _
    simp only [execSilenceExpiry, show s.ptab[q].silenceExpiry = some e from he, if_pos hle,
      show s.ptab[q].link = .silent from hl]
    rfl

/-! ## Dissents (R58) -/

theorem barredByNotice_iff {r : PeerRecord} (hr : PeerRecordStanding r) :
    barredByNotice r = true ↔ r.link = .admitted ∧ r.dissent = 2 := by
  simp only [barredByNotice, Bool.and_eq_true, decide_eq_true_eq]
  refine and_congr_right fun hl => ?_
  obtain ⟨-, hle, -⟩ := (peerRecordStanding_of_admitted hl).1 hr
  omega

theorem afterDissent_eq (own : Station) (tick : Tick) (d : Dissent) (q : Station) (r : PeerRecord) :
    afterDissent own tick d q r =
      if q = own then r
      else if q ∈ d.dissenters then countDissent tick r
      else if q ∈ d.agreeing then clearDissent r
      else r := by
  simp [afterDissent]

/-- DISSENT_NOTICE, with the records it bars in ascending order. -/
theorem exec_dissentNotice {s : State} {d : Dissent} {rest : List Dissent} (hfront : s.net.dissent = d :: rest) :
    exec .dissentNotice s =
      .next
        { s with
          ptab := mapNumbered (afterDissent s.svc.station s.osc.tick d) s.ptab
          net :=
            { s.net with
              dissent := rest
              toDmon := s.net.toDmon
                ++ (stations.filter fun p => p ≠ s.svc.station && d.dissenters.contains p && barredByNotice s.ptab[p]).map
                  .leave } } := by
  change execDissentNotice s = _
  unfold execDissentNotice
  rw [hfront]
  rfl

/-- Settles O33. -/
theorem dissentTaken : Obligations.DissentTaken := by
  intro d rest s hfront hstanding
  have hmem (q : Station) : q ∈ stations.filter (fun p => p ≠ s.svc.station && d.dissenters.contains p && barredByNotice s.ptab[p]) ↔
      q ≠ s.svc.station ∧ q ∈ d.dissenters ∧ s.ptab[q].link = .admitted ∧ s.ptab[q].dissent = 2 := by
    rw [List.mem_filter, Bool.and_eq_true, Bool.and_eq_true, barredByNotice_iff (hstanding.1 q)]
    simp [mem_stations, and_assoc]
  refine ⟨_, _, exec_dissentNotice hfront, rfl, (List.pairwise_lt_finRange 32).filter _, hmem, fun q => ?_⟩
  have htable : (mapNumbered (afterDissent s.svc.station s.osc.tick d) s.ptab)[q] =
      afterDissent s.svc.station s.osc.tick d q s.ptab[q] := mapNumbered_getElem _ _ _ _
  intro r
  simp only [htable, afterDissent_eq]
  refine ⟨fun hq => ?_, fun hown hl hd hfew => ?_, fun p hq hp => ?_, fun hown hl hd ha => ?_⟩
  · rcases hq with hq | hl | ⟨hd, ha⟩
    · rw [if_pos hq]
    · have hkept : countDissent s.osc.tick s.ptab[q] = s.ptab[q] ∧ clearDissent s.ptab[q] = s.ptab[q] :=
        ⟨if_neg hl, if_neg hl⟩
      rw [hkept.1, hkept.2, ite_self, ite_self, ite_self]
    · rw [if_neg hd, if_neg ha, ite_self]
  · have hcount : ¬3 ≤ s.ptab[q].dissent + 1 := Nat.not_le.2 (Nat.succ_lt_succ hfew)
    rw [if_neg hown, if_pos hd, countDissent, if_pos hl, if_neg hcount]
  · obtain ⟨hown, hd, hl, hdissent⟩ := (hmem q).1 hq
    rw [if_neg hown, if_pos hd, countDissent, if_pos hl, if_pos (by omega), barRecord_eq hp]
  · rw [if_neg hown, if_neg hd, if_pos ha, clearDissent, if_pos hl]

end Sys2Proof.PeerMoves
end

section
/-! SPAN as its statements give it: a bit time, the end of a sync mark, launches and deferrals, the end of a transmission. -/

namespace Sys2Proof.SpanMoves

open Sys2Proof.Machine Sys2Proof.Frames Sys2Proof.SpanLaws

/-! ## The receiver (R19, R20) -/

/-- What the receiver holds of SPAN is the same. -/
def RxSame (sp sp' : Span) : Prop :=
  sp'.rx = sp.rx ∧ sp'.rxBits = sp.rxBits ∧ sp'.syncDue = sp.syncDue ∧ sp'.readings = sp.readings ∧ sp'.ended = sp.ended

theorem reachCount_eq (sp : Span) : reachCount sp = { sp with frame := (reachCount sp).frame } := by
  unfold reachCount
  split <;> rfl

theorem rxSame_compareDriven (driven : Option Bool) (sym : LineSymbol) (sp : Span) : RxSame sp (compareDriven driven sym sp) := by
  unfold compareDriven
  split
  · exact ⟨rfl, rfl, rfl, rfl, rfl⟩
  · split <;> exact ⟨rfl, rfl, rfl, rfl, rfl⟩

theorem matchSync_frame (n : Nat) (b : Bool) (sp : Span) (f : Option LaunchFields) :
    matchSync n b { sp with frame := f } = { matchSync n b sp with frame := f } := by
  unfold matchSync
  split
  · split <;> rfl
  · rfl

/-- The receiver does not look at the frame being driven. -/
theorem receiveSymbol_frame (sym : LineSymbol) (sp : Span) (f : Option LaunchFields) :
    receiveSymbol sym { sp with frame := f } = { receiveSymbol sym sp with frame := f } := by
  rcases sp with ⟨_, _, _, _, _, _, _, _, _, rx⟩
  cases rx <;> cases sym
  case ready.bit b => exact matchSync_frame 0 b _ f
  case matching.bit n b => exact matchSync_frame n b _ f
  case receiving.bit b =>
    dsimp only [receiveSymbol]
    split <;> rfl
  all_goals rfl

/-- The receiver after a bit time is what `receiveSymbol` makes of it. -/
theorem rxSame_hearSymbol (station : Station) (sym : LineSymbol) (sp : Span) :
    RxSame (receiveSymbol sym sp) (hearSymbol station sym sp) := by
  have hreceived : RxSame (receiveSymbol sym sp) (receiveSymbol sym (reachCount sp)) := by
    have hframe := receiveSymbol_frame sym sp (reachCount sp).frame
    rw [← reachCount_eq] at hframe
    rw [hframe]
    exact ⟨rfl, rfl, rfl, rfl, rfl⟩
  obtain ⟨hrx, hbits, hsync, hreadings, hended⟩ := hreceived
  obtain ⟨hrx', hbits', hsync', hreadings', hended'⟩ :=
    rxSame_compareDriven (drivenBit station (reachCount sp)) sym (receiveSymbol sym (reachCount sp))
  exact ⟨hrx'.trans hrx, hbits'.trans hbits, hsync'.trans hsync, hreadings'.trans hreadings, hended'.trans hended⟩

section
variable {sym : LineSymbol} {sp : Span}

theorem receive_waitIdle (h : sp.rx = .waitIdle) :
    (receiveSymbol sym sp).rx = if sym = .idle then .ready else .waitIdle := by
  cases sym <;> simp [receiveSymbol, h]

/-- Hunting, with `n` bits of the sync mark matched. -/
def Hunting (sp : Span) (n : Nat) : Prop := sp.rx = .ready ∧ n = 0 ∨ sp.rx = .matching n

theorem receive_hunting_idle {n : Nat} (h : Hunting sp n) : (receiveSymbol .idle sp).rx = .ready := by
  rcases h with ⟨h, -⟩ | h <;> simp [receiveSymbol, h]

theorem receive_hunting_contention {n : Nat} (h : Hunting sp n) : (receiveSymbol .contention sp).rx = .waitIdle := by
  rcases h with ⟨h, -⟩ | h <;> simp [receiveSymbol, h]

theorem receive_hunting_bit {n : Nat} (h : Hunting sp n) (b : Bool) : receiveSymbol (.bit b) sp = matchSync n b sp := by
  rcases h with ⟨h, rfl⟩ | h <;> simp [receiveSymbol, h]

theorem matchSync_wrong {n : Nat} {b : Bool} (h : (bitsOfBytes [0xE1, 0x5A])[n]? ≠ some b) : (matchSync n b sp).rx = .waitIdle := by
  rw [matchSync, if_neg (by exact h)]

theorem matchSync_more {n : Nat} {b : Bool} (h : (bitsOfBytes [0xE1, 0x5A])[n]? = some b) (hn : n < 15) :
    (matchSync n b sp).rx = .matching (n + 1) := by
  rw [matchSync, if_pos (by exact h), if_neg (by omega)]

theorem matchSync_last {b : Bool} (h : (bitsOfBytes [0xE1, 0x5A])[15]? = some b) :
    matchSync 15 b sp = { sp with rx := .receiving, rxBits := [], syncDue := true, readings := none } := by
  rw [matchSync, if_pos (by exact h), if_pos rfl]

/-- No reception ends where none is open, and nothing is gathered short of the sync mark's end. -/
theorem receive_not_receiving (h : sp.rx ≠ .receiving) :
    (receiveSymbol sym sp).ended = sp.ended
      ∧ ((receiveSymbol sym sp).rx ≠ .receiving →
        (receiveSymbol sym sp).rxBits = sp.rxBits ∧ (receiveSymbol sym sp).syncDue = sp.syncDue
          ∧ (receiveSymbol sym sp).readings = sp.readings) := by
  have hmatch (n : Nat) (b : Bool) :
      (matchSync n b sp).ended = sp.ended
        ∧ ((matchSync n b sp).rx ≠ .receiving →
          (matchSync n b sp).rxBits = sp.rxBits ∧ (matchSync n b sp).syncDue = sp.syncDue
            ∧ (matchSync n b sp).readings = sp.readings) := by
    unfold matchSync
    split
    · split
      · exact ⟨rfl, fun hne => (hne rfl).elim⟩
      · exact ⟨rfl, fun _ => ⟨rfl, rfl, rfl⟩⟩
    · exact ⟨rfl, fun _ => ⟨rfl, rfl, rfl⟩⟩
  unfold receiveSymbol
  split
  case h_5 b _ => exact hmatch 0 b
  case h_8 n b _ => exact hmatch n b
  case h_10 hrx => exact (h hrx).elim
  case h_11 hrx => exact (h hrx).elim
  case h_12 hrx => exact (h hrx).elim
  all_goals exact ⟨rfl, fun _ => ⟨rfl, rfl, rfl⟩⟩

theorem receive_bit (h : sp.rx = .receiving) {b : Bool} (hroom : sp.rxBits.length < 232) :
    receiveSymbol (.bit b) sp = { sp with rxBits := sp.rxBits ++ [b] } := by
  simp [receiveSymbol, h, Nat.not_le.2 hroom]

theorem receive_end (h : sp.rx = .receiving) (hfull : ∀ b, sym = .bit b → 232 ≤ sp.rxBits.length) :
    receiveSymbol sym sp =
      endReception (if sym = .idle then .idle else if sym = .contention then .symbolError else .overlength)
        (if sym = .idle then .ready else .waitIdle) sp := by
  cases sym with
  | idle => simp [receiveSymbol, h]
  | bit b => simp [receiveSymbol, h, hfull b rfl]
  | contention => simp [receiveSymbol, h]

end

/-! ## The driver (R28, R35, R178) -/

/-- The bits of a frame do not depend on whether a list that is not given is empty or not yet given. -/
theorem beaconBytes_fix (station : Station) (f : LaunchFields) :
    beaconBytes station { f with accusations := some (f.accusations.getD []) } = beaconBytes station f := rfl

theorem drivenBits_reachCount (station : Station) (sp : Span) :
    drivenBits station (reachCount sp).frame = drivenBits station sp.frame := by
  unfold reachCount
  split
  · cases sp.frame <;> rfl
  · rfl

theorem drivenBit_reachCount (station : Station) (sp : Span) : drivenBit station (reachCount sp) = drivenBit station sp := by
  have hbits := drivenBits_reachCount station sp
  have hsent : (reachCount sp).sent = sp.sent := by rw [reachCount_eq]
  have hdriver : driverSending (reachCount sp) = driverSending sp := by rw [reachCount_eq]; rfl
  rw [drivenBit, drivenBit, hbits, hsent, hdriver]

theorem driverSending_iff (sp : Span) : driverSending sp = true ↔ sp.tx = .sending ∧ sp.mismatched = false := by
  simp [driverSending]

/-- The bits given by the statement are the driven ones. -/
theorem drivenBits_of_frame {station : Station} {sp : Span} {bits : List Bool}
    (h : sp.frame = none ∧ bits = bitsOfBytes [0xE1, 0x5A]
      ∨ ∃ f acc, sp.frame = some f ∧ f.accusations.getD [] = acc
        ∧ bits = bitsOfBytes (beaconBytes station { f with accusations := some acc })) : drivenBits station sp.frame = bits := by
  rcases h with ⟨hframe, rfl⟩ | ⟨f, acc, hframe, rfl, rfl⟩
  · rw [hframe]
    rfl
  · rw [hframe, beaconBytes_fix]
    rfl

theorem receiveSymbol_driver (sym : LineSymbol) (sp : Span) :
    (receiveSymbol sym sp).sent = sp.sent ∧ (receiveSymbol sym sp).mismatched = sp.mismatched
      ∧ (receiveSymbol sym sp).frame = sp.frame := by
  have hmatch (n : Nat) (b : Bool) : (matchSync n b sp).sent = sp.sent ∧ (matchSync n b sp).mismatched = sp.mismatched
      ∧ (matchSync n b sp).frame = sp.frame := by
    unfold matchSync
    split
    · split <;> exact ⟨rfl, rfl, rfl⟩
    · exact ⟨rfl, rfl, rfl⟩
  unfold receiveSymbol
  split
  case h_5 b _ => exact hmatch 0 b
  case h_8 n b _ => exact hmatch n b
  case h_11 => split <;> exact ⟨rfl, rfl, rfl⟩
  all_goals exact ⟨rfl, rfl, rfl⟩

/-- The driver after a bit time: the driven bit compared with what was heard, the frame's list fixed at its count. -/
theorem hearSymbol_driver (station : Station) (sym : LineSymbol) (sp : Span) :
    (drivenBit station sp = none → (hearSymbol station sym sp).sent = sp.sent ∧ (hearSymbol station sym sp).mismatched = sp.mismatched)
      ∧ (∀ b, drivenBit station sp = some b →
        (sym = .bit b → (hearSymbol station sym sp).sent = sp.sent + 1 ∧ (hearSymbol station sym sp).mismatched = sp.mismatched)
          ∧ (sym ≠ .bit b → (hearSymbol station sym sp).sent = sp.sent ∧ (hearSymbol station sym sp).mismatched = true))
      ∧ (hearSymbol station sym sp).frame = (reachCount sp).frame := by
  obtain ⟨hsent, hmismatched, hframe⟩ := receiveSymbol_driver sym (reachCount sp)
  have hsent' : (reachCount sp).sent = sp.sent := by rw [reachCount_eq]
  have hmismatched' : (reachCount sp).mismatched = sp.mismatched := by rw [reachCount_eq]
  rw [hsent'] at hsent
  rw [hmismatched'] at hmismatched
  simp only [hearSymbol, drivenBit_reachCount]
  cases hdriven : drivenBit station sp with
  | none => exact ⟨fun _ => ⟨hsent, hmismatched⟩, nofun, hframe⟩
  | some b =>
    refine ⟨nofun, fun b' hb' => ?_, ?_⟩
    · cases hb'
      refine ⟨fun hsym => ?_, fun hsym => ?_⟩
      · simp only [compareDriven, if_pos hsym]
        exact ⟨by rw [hsent], hmismatched⟩
      · simp only [compareDriven, if_neg hsym, and_true]
        exact hsent
    · simp only [compareDriven]
      split <;> exact hframe

theorem hearSymbol_nextLaunch (station : Station) (sym : LineSymbol) (sp : Span) :
    (hearSymbol station sym sp).nextLaunch = sp.nextLaunch := by
  have hreach : (reachCount sp).nextLaunch = sp.nextLaunch := by rw [reachCount_eq]
  have hmatch (n : Nat) (b : Bool) (sp' : Span) : (matchSync n b sp').nextLaunch = sp'.nextLaunch := by
    unfold matchSync
    split
    · split <;> rfl
    · rfl
  have hreceive (sp' : Span) : (receiveSymbol sym sp').nextLaunch = sp'.nextLaunch := by
    unfold receiveSymbol
    split
    case h_5 b _ => exact hmatch 0 b sp'
    case h_8 n b _ => exact hmatch n b sp'
    case h_11 => split <;> rfl
    all_goals rfl
  have hcompare (driven : Option Bool) (sp' : Span) : (compareDriven driven sym sp').nextLaunch = sp'.nextLaunch := by
    unfold compareDriven
    split
    · rfl
    · split <;> rfl
  exact (hcompare _ _).trans ((hreceive _).trans hreach)

theorem hearSymbol_idleRun (station : Station) (sym : LineSymbol) (sp : Span) :
    (hearSymbol station sym sp).idleRun = if sym = .idle then min 65535 (sp.idleRun + 1) else 0 := by
  have hreach : (reachCount sp).idleRun = sp.idleRun := by rw [reachCount_eq]
  change nextIdleRun (reachCount sp).idleRun sym = _
  rw [hreach]
  cases sym <;> simp [nextIdleRun, Config.countLimit]

theorem drivenBit_driving {station : Station} {sp : Span} {bits : List Bool} (hdriving : sp.tx = .sending ∧ sp.mismatched = false)
    (hbits : drivenBits station sp.frame = bits) : drivenBit station sp = bits[sp.sent]? := by
  rw [drivenBit, if_pos ((driverSending_iff sp).2 hdriving), hbits]

theorem drivenBit_idle {station : Station} {sp : Span} (hidle : ¬(sp.tx = .sending ∧ sp.mismatched = false)) :
    drivenBit station sp = none := by
  rw [drivenBit, if_neg (mt (driverSending_iff sp).1 hidle)]

theorem reachCount_kept {sp : Span}
    (h : sp.tx ≠ .sending ∨ sp.sent < 192 ∨ sp.frame = none ∨ ∃ f acc, sp.frame = some f ∧ f.accusations = some acc) :
    (reachCount sp).frame = sp.frame := by
  unfold reachCount
  split
  next hreached =>
    simp only [Bool.and_eq_true, decide_eq_true_eq] at hreached
    obtain ⟨htx, hsent⟩ := hreached
    rcases h with h | h | h | ⟨f, acc, hf, hacc⟩
    · exact (h htx).elim
    · omega
    · simp [h]
    · simp only [hf, Option.map_some, fixAccusations, hacc, Option.getD_some]
      rw [← hacc]
  · rfl

theorem reachCount_fixed {sp : Span} {f : LaunchFields} (htx : sp.tx = .sending) (hsent : 192 ≤ sp.sent) (hf : sp.frame = some f)
    (hacc : f.accusations = none) : (reachCount sp).frame = some { f with accusations := some [] } := by
  simp [reachCount, htx, hsent, hf, fixAccusations, hacc]

theorem spanPins_low (s : State) : spanPins false s = (drivenBit s.svc.station s.span).map halvesOfBit := rfl

theorem halvesOfBit_eq (b : Bool) :
    halvesOfBit b = { first := if b then .positive else .negative, second := if b then .negative else .positive } := by
  cases b <;> rfl

/-- Settles O22. -/
theorem bitTimeHeard : Obligations.BitTimeHeard := by
  intro halves sym s hheard driving
  have hclass : classBitTime halves = sym := (heard_iff halves sym).1 hheard
  have hexec : exec (.bitTime halves) s = .next (s.onSpan (hearSymbol s.svc.station sym)) := by
    rw [← hclass]
    rfl
  obtain ⟨htx, hmuted, hattempts, hsched⟩ := txKept_hearSymbol s.svc.station sym s.span
  have hnext := hearSymbol_nextLaunch s.svc.station sym s.span
  have hseq := LatchLaws.seq_hearSymbol s.svc.station sym s.span
  have hrun := hearSymbol_idleRun s.svc.station sym s.span
  obtain ⟨hidle, hdriven, hframe⟩ := hearSymbol_driver s.svc.station sym s.span
  obtain ⟨hrx, hbits, hsync, hreadings, hended⟩ := rxSame_hearSymbol s.svc.station sym s.span
  refine ⟨_, hexec, rfl, ?_⟩
  simp only [State.onSpan_span]
  generalize hearSymbol s.svc.station sym s.span = sp' at *
  refine ⟨htx, hmuted, hattempts, hsched, hnext, hseq, hrun, ?_, ?_, rfl, ?_, ?_, ?_, ?_, ?_, ?_, ?_, ?_⟩
  · intro bits hframebits hdriving
    have hbit := drivenBit_driving hdriving (drivenBits_of_frame hframebits)
    have hmatched : s.span.mismatched = false := hdriving.2
    refine ⟨fun b hb => ?_, fun hdone => ?_⟩
    · obtain ⟨hsame, hother⟩ := hdriven b (hbit.trans hb)
      refine ⟨?_, fun h => ⟨(hsame h).1, (hsame h).2.trans hmatched⟩, hother⟩
      rw [spanPins_low, hbit, hb, Option.map_some, halvesOfBit_eq]
    · have hnone : drivenBit s.svc.station s.span = none := hbit.trans (List.getElem?_eq_none hdone)
      refine ⟨?_, (hidle hnone).1, (hidle hnone).2.trans hmatched⟩
      rw [spanPins_low, hnone, Option.map_none]
  · intro hnot
    have hnone := drivenBit_idle (station := s.svc.station) hnot
    refine ⟨?_, hidle hnone⟩
    rw [spanPins_low, hnone, Option.map_none]
  · intro h
    rw [hframe, reachCount_kept h]
  · intro f hsending hreached hf hacc
    rw [hframe, reachCount_fixed hsending hreached hf hacc]
  · intro h
    rw [hrx, receive_waitIdle h]
  · intro n hhunting
    refine ⟨fun h => ?_, fun h => ?_, fun b h => ⟨fun hwrong => ?_, fun hright hn => ?_, fun hright hn => ?_⟩⟩ <;> subst h
    · rw [hrx, receive_hunting_idle hhunting]
    · rw [hrx, receive_hunting_contention hhunting]
    · rw [hrx, receive_hunting_bit hhunting, matchSync_wrong hwrong]
    · rw [hrx, receive_hunting_bit hhunting, matchSync_more hright hn]
    · subst hn
      rw [receive_hunting_bit hhunting, matchSync_last hright] at hrx hbits hsync hreadings
      exact ⟨hrx, hbits, hsync, hreadings⟩
  · intro h
    rw [hended, (receive_not_receiving h).1]
  · intro h hstill
    rw [hbits, hsync, hreadings]
    exact (receive_not_receiving h).2 (hrx ▸ hstill)
  · intro h b hsym hroom
    subst hsym
    rw [receive_bit h hroom] at hrx hbits hsync hreadings hended
    exact ⟨hrx.trans h, hbits, hended, hreadings, hsync⟩
  · intro h hfull
    rw [receive_end h hfull] at hrx hbits hsync hreadings hended
    exact ⟨hrx, hended, hbits, hsync, hreadings⟩

/-! ## The end of a sync mark (R21, R31 to R34) -/

/-- Settles O23. -/
theorem endOfSyncMarkReadings : Obligations.EndOfSyncMarkReadings := by
  intro s hdue stamp readings
  have hexec : exec .endOfSyncMark s = .next (s.onSpan fun sp =>
      { sp with
        syncDue := false
        readings := some (takeReadings s)
        frame := if driverSending s.span then some (launchFields s) else sp.frame }) := if_pos hdue
  refine ⟨fun hidle => ?_, fun launch hsending hmatched hsched => ?_⟩
  · have hdriver : driverSending s.span = false := by
      rw [← Bool.not_eq_true, driverSending_iff]
      rintro ⟨htx, hm⟩
      rcases hidle with h | h
      · exact h htx
      · exact Bool.false_ne_true (hm.symm.trans h)
    rw [hexec, takeReadings, hdriver]
    rfl
  · have hdriver : driverSending s.span = true := (driverSending_iff _).2 ⟨hsending, hmatched⟩
    rw [hexec, takeReadings, launchFields, hdriver, hsched]
    rfl

/-! ## Launches, deferrals and starts (R26, R27, R29, R30) -/

/-- The slot offset is the station's share of the round in ticks, rounded up. -/
theorem slotOffset_bounds (s : State) :
    slotOffset s * 1280 < s.svc.station.val * s.svc.image.period.ns + 1280
      ∧ s.svc.station.val * s.svc.image.period.ns ≤ slotOffset s * 1280 := by
  have hslot : slotOffset s = (s.svc.station.val * s.svc.image.period.ns + 1279) / 1280 := rfl
  omega

theorem deferralLimitTicks_eq (s : State) : deferralLimitTicks s = s.svc.image.period.ns / 320 := by
  rw [deferralLimitTicks, ownPeriod]
  cases s.svc.image.period <;> decide +kernel

theorem exec_roundStartNotice {r : RoundStart} {rest : List RoundStart} {s : State} (h : s.net.roundStart = r :: rest) :
    exec .roundStartNotice s =
      .next ((s.onNet fun n => { n with roundStart := rest }).onSpan (takeRoundStart (r.tick + slotOffset s) r.first)) := by
  change execRoundStartNotice s = _
  simp only [execRoundStartNotice, h]

theorem startPermitted_iff {s : State} {launch : Tick} (htx : s.span.tx = .deferring) (hsched : s.span.sched = some launch) :
    startPermitted s = true ↔
      32 + (s.svc.station.val + 1) * 32 * s.span.attempts ≤ s.span.idleRun
        ∧ s.osc.tick ≤ launch + s.svc.image.period.ns / 320 := by
  simp only [startPermitted, Bool.and_eq_true, decide_eq_true_eq]
  simp only [htx, hsched, requiredIdleRun, deferralLimitTicks_eq, Option.getD_some, true_and]

theorem deferralPassed_iff {s : State} {launch : Tick} (htx : s.span.tx = .deferring) (hsched : s.span.sched = some launch) :
    deferralPassed s = true ↔ launch + s.svc.image.period.ns / 320 < s.osc.tick := by
  simp [deferralPassed, htx, hsched, deferralLimitTicks_eq]

theorem exec_scheduledLaunch {s : State} {launch : Tick} (htx : s.span.tx = .waiting) (hsched : s.span.sched = some launch) :
    exec .scheduledLaunch s =
      if launch ≤ s.osc.tick then .next (s.onSpan fun sp => { sp with tx := .deferring }) else .next s := by
  change execScheduledLaunch s = _
  simp only [execScheduledLaunch, htx, hsched]

/-- Settles O25. -/
theorem launchScheduledAndPermitted : Obligations.LaunchScheduledAndPermitted := by
  refine ⟨fun r rest s hnotice => ?_, fun launch s hsched => ⟨fun htx hreached => ?_, fun htx hearly => ?_, fun htx hin => ?_,
    fun htx hpassed => ?_⟩⟩
  · obtain ⟨hlt, hle⟩ := slotOffset_bounds s
    refine ⟨r.tick + slotOffset s, ?_, ?_, ?_⟩
    · rw [Nat.add_mul, Nat.add_assoc]
      exact Nat.add_lt_add_left hlt _
    · rw [Nat.add_mul]
      exact Nat.add_le_add_left hle _
    · rw [exec_roundStartNotice hnotice]
      rfl
  · rw [exec_scheduledLaunch htx hsched, if_pos hreached]
    rfl
  · rw [exec_scheduledLaunch htx hsched, if_neg (Nat.not_le.2 hearly)]
  · refine ⟨fun hrun => ?_, fun hrun => ?_, ?_⟩
    · exact if_pos ((startPermitted_iff htx hsched).2 ⟨hrun, hin⟩)
    · exact if_neg fun h => Nat.not_le.2 hrun ((startPermitted_iff htx hsched).1 h).1
    · exact if_neg fun h => Nat.not_lt.2 hin ((deferralPassed_iff htx hsched).1 h)
  · refine ⟨?_, ?_⟩
    · exact if_neg fun h => Nat.not_le.2 hpassed ((startPermitted_iff htx hsched).1 h).2
    · exact if_pos ((deferralPassed_iff htx hsched).2 hpassed)

/-! ## The end of a transmission (R28, R30, R36) -/

theorem exec_mismatch {s : State} (htx : s.span.tx = .sending) (hm : s.span.mismatched = true) :
    exec .mismatch s = .next (s.onSpan abandonFrame) :=
  if_pos (by simp [htx, hm])

theorem abandonFrame_again {sp : Span} (h : sp.attempts < 2) :
    abandonFrame sp =
      { sp with tx := .deferring, attempts := sp.attempts + 1, frame := none, sent := 0, mismatched := false } :=
  if_neg (by omega)

theorem abandonFrame_skips {sp : Span} (h : sp.attempts = 2) : abandonFrame sp = backToWaiting sp := if_pos (by omega)

/-- The bits of a frame: 27 bytes and one for each accusation (R178). -/
theorem drivenBits_length (station : Station) (f : LaunchFields) :
    (drivenBits station (some f)).length = 8 * (27 + (f.accusations.getD []).length) := by
  simp only [drivenBits, beaconBytes, beaconBody, syncBytes, bitsOfBytes_length, List.length_append, List.length_cons,
    List.length_nil, List.length_map, beBytes_length]
  omega

theorem exec_beaconCompletion {s : State} {f : LaunchFields} (htx : s.span.tx = .sending) (hm : s.span.mismatched = false)
    (hf : s.span.frame = some f) :
    exec .beaconCompletion s =
      if s.span.sent = 8 * (27 + (f.accusations.getD []).length) then
        .next
          ((s.onSpan fun sp => { backToWaiting sp with seq := sp.seq + 1 }).onNet fun n =>
            { n with completion := n.completion ++ [f.tick] })
      else .next s := by
  change execBeaconCompletion s = _
  have hsent : frameSent s = decide (s.span.sent = 8 * (27 + (f.accusations.getD []).length)) := by
    simp [frameSent, (driverSending_iff s.span).2 ⟨htx, hm⟩, hf, drivenBits_length]
  simp only [execBeaconCompletion, hf, hsent, decide_eq_true_eq]

/-- Settles O26. -/
theorem frameAbandonedOrCompleted : Obligations.FrameAbandonedOrCompleted := by
  intro s htx back
  refine ⟨fun hm hattempts => ?_, fun hm hattempts => ?_, fun f hm hf => ⟨fun hall => ?_, fun hpart => ?_⟩⟩
  · rw [exec_mismatch htx hm, State.onSpan, abandonFrame_again hattempts]
  · rw [exec_mismatch htx hm, State.onSpan, abandonFrame_skips hattempts]
    rfl
  · rw [exec_beaconCompletion htx hm hf, if_pos hall]
    rfl
  · rw [exec_beaconCompletion htx hm hf, if_neg hpart.ne]

end Sys2Proof.SpanMoves
end

section
/-! A frame's bytes read and written, byte for byte: what `frameOf` accepts is what `Carries` says. -/

namespace Sys2Proof.FrameLaws

open Sys2Proof.Machine Sys2Proof.Frames Sys2Proof.WireLaws

/-! ## Numbers, station numbers and codes read from bytes (R22, R167) -/

theorem beNat_append (bs : List Byte) (b : Byte) : beNat (bs ++ [b]) = beNat bs * 256 + b.toNat := by
  simp [beNat]

theorem beNat_lt (bs : List Byte) : beNat bs < 256 ^ bs.length := by
  induction bs using List.reverseRecOn with
  | nil => decide
  | append_singleton bs b ih =>
    have hb : b.toNat < 256 := b.isLt
    rw [beNat_append, List.length_append, List.length_singleton, Nat.pow_succ]
    omega

theorem beBytes_append (n v : Nat) (b : Byte) : beBytes (n + 1) (v * 256 + b.toNat) = beBytes n v ++ [b] := by
  induction n with
  | zero =>
    have hb : BitVec.ofNat 8 (v * 256 + b.toNat) = b := by
      apply BitVec.eq_of_toNat_eq
      rw [BitVec.toNat_ofNat]
      have : b.toNat < 256 := b.isLt
      omega
    simp [beBytes, hb]
  | succ n ih =>
    have hdiv : (v * 256 + b.toNat) / 256 ^ (n + 1) = v / 256 ^ n := by
      have hb : b.toNat < 256 := b.isLt
      rw [Nat.pow_succ', ← Nat.div_div_eq_div_mul, show (v * 256 + b.toNat) / 256 = v by omega]
    rw [beBytes, hdiv, ih, beBytes, List.cons_append]

/-- Bytes are those of the number they make. -/
theorem beBytes_beNat (bs : List Byte) : beBytes bs.length (beNat bs) = bs := by
  induction bs using List.reverseRecOn with
  | nil => rfl
  | append_singleton bs b ih => rw [beNat_append, List.length_append, List.length_singleton, beBytes_append, ih]

theorem stationOfByte_iff (b : Byte) (p : Station) : stationOfByte b = some p ↔ b = stationByte p := by
  constructor
  · intro h
    unfold stationOfByte at h
    split at h
    · cases h
      exact BitVec.eq_of_toNat_eq (by simp [stationByte])
    · cases h
  · rintro rfl
    exact stationOfByte_stationByte p

theorem stationsOfBytes_iff (bs : List Byte) (ps : List Station) : stationsOfBytes bs = some ps ↔ bs = ps.map stationByte := by
  constructor
  · intro h
    induction bs generalizing ps with
    | nil =>
      cases h
      rfl
    | cons b bs ih =>
      unfold stationsOfBytes at h
      split at h
      next p ps' hp hps =>
        cases h
        rw [(stationOfByte_iff b p).1 hp, ih ps' hps, List.map_cons]
      next => cases h
  · rintro rfl
    exact stationsOfBytes_map ps

theorem periodOfCode_iff (b : Byte) (p : Period) : periodOfCode b.toNat = some p ↔ b = BitVec.ofNat 8 p.code := by
  constructor
  · intro h
    have hcode : b.toNat = p.code := by
      generalize b.toNat = n at h
      unfold periodOfCode at h
      split at h <;> cases h <;> rfl
    rw [← hcode, BitVec.ofNat_toNat, BitVec.setWidth_eq]
  · rintro rfl
    exact periodOfCode_code p

/-! ## The layout of a frame after its sync mark (R178) -/

/-- The fields of a frame as bytes: station, sequence, flags, interval code, deferral, the launch stamp's two fields, stated
uncertainty, count and accusations. -/
structure Layout where
  station : Byte
  seq : Byte
  flags : Byte
  code : Byte
  deferral : List Byte
  secs : List Byte
  ns : List Byte
  unc : List Byte
  count : Byte
  accusations : List Byte

/-- The layout's bytes in their order. -/
def Layout.bytes (l : Layout) : List Byte :=
  l.station :: l.seq :: l.flags :: l.code
    :: (l.deferral ++ (l.secs ++ (l.ns ++ (l.unc ++ (l.count :: l.accusations)))))

/-- Each field has its width. -/
structure Layout.Sized (l : Layout) : Prop where
  deferral : l.deferral.length = 4
  secs : l.secs.length = 6
  ns : l.ns.length = 4
  unc : l.unc.length = 4
  accusations : l.accusations.length = l.count.toNat

theorem exists_split {xs : List Byte} {n : Nat} (h : n ≤ xs.length) : ∃ ys zs, ys.length = n ∧ xs = ys ++ zs :=
  ⟨xs.take n, xs.drop n, List.length_take_of_le h, (List.take_append_drop n xs).symm⟩

theorem exists_cons {xs : List Byte} {n : Nat} (h : n + 1 ≤ xs.length) : ∃ y zs, xs = y :: zs ∧ n ≤ zs.length := by
  cases xs with
  | nil => exact absurd h (by simp)
  | cons y zs => exact ⟨y, zs, rfl, by simpa using h⟩

/-- Bytes of the length that their count asks for are a layout with two bytes after it. -/
theorem exists_layout {bs : List Byte} (h : bs.length = 25 + (bs.getD 22 0).toNat) :
    ∃ (l : Layout) (crc : List Byte), l.Sized ∧ crc.length = 2 ∧ bs = l.bytes ++ crc := by
  obtain ⟨a, t, rfl, h24⟩ := exists_cons (xs := bs) (n := 24) (by omega)
  obtain ⟨b, t, rfl, h23⟩ := exists_cons (n := 23) h24
  obtain ⟨c, t, rfl, h22⟩ := exists_cons (n := 22) h23
  obtain ⟨d, t, rfl, ht⟩ := exists_cons (n := 21) h22
  obtain ⟨w, t, hw, rfl⟩ := exists_split (n := 4) (by omega : 4 ≤ t.length)
  obtain ⟨x, t, hx, rfl⟩ := exists_split (n := 6) (by rw [List.length_append] at ht; omega : 6 ≤ t.length)
  obtain ⟨y, t, hy, rfl⟩ := exists_split (n := 4) (by simp only [List.length_append] at ht; omega : 4 ≤ t.length)
  obtain ⟨z, t, hz, rfl⟩ := exists_split (n := 4) (by simp only [List.length_append] at ht; omega : 4 ≤ t.length)
  obtain ⟨m, t, rfl, -⟩ := exists_cons (n := 2) (by simp only [List.length_append] at ht; omega : 2 + 1 ≤ t.length)
  have hcount : (a :: b :: c :: d :: (w ++ (x ++ (y ++ (z ++ m :: t))))).getD 22 0 = m := by
    simp [List.getD_eq_getElem?_getD, List.getElem?_append_right, hw, hx, hy, hz]
  have hrest : t.length = m.toNat + 2 := by
    rw [hcount] at h
    simp only [List.length_cons, List.length_append, hw, hx, hy, hz] at h
    omega
  obtain ⟨acc, crc, hacc, rfl⟩ := exists_split (n := m.toNat) (by omega : m.toNat ≤ t.length)
  refine ⟨⟨a, b, c, d, w, x, y, z, m, acc⟩, crc, ⟨hw, hx, hy, hz, hacc⟩, ?_, ?_⟩
  · rw [List.length_append] at hrest
    omega
  · simp [Layout.bytes]

section
variable {l : Layout} (h : l.Sized) {crc : List Byte} (hcrc : crc.length = 2)
include h

theorem layout_length : l.bytes.length = 23 + l.count.toNat := by
  simp only [Layout.bytes, List.length_cons, List.length_append, h.deferral, h.secs, h.ns, h.unc, h.accusations]
  omega

theorem layout_count : (l.bytes ++ crc).getD 22 0 = l.count := by
  simp [Layout.bytes, List.getD_eq_getElem?_getD, List.getElem?_append_right, h.deferral, h.secs, h.ns, h.unc]

theorem layout_deferral : ((l.bytes ++ crc).drop 4).take 4 = l.deferral := by
  simp [Layout.bytes, h.deferral]

theorem layout_secs : ((l.bytes ++ crc).drop 8).take 6 = l.secs := by
  simp [Layout.bytes, h.deferral, h.secs]

theorem layout_ns : ((l.bytes ++ crc).drop 14).take 4 = l.ns := by
  simp [Layout.bytes, slice_append, h.deferral, h.secs, h.ns]

theorem layout_unc : ((l.bytes ++ crc).drop 18).take 4 = l.unc := by
  simp [Layout.bytes, slice_append, h.deferral, h.secs, h.ns, h.unc]

theorem layout_accusations : ((l.bytes ++ crc).drop 23).take l.count.toNat = l.accusations := by
  simp [Layout.bytes, slice_append, h.deferral, h.secs, h.ns, h.unc, ← h.accusations]

end

/-- What a layout says, if every field of it is good: `f`. -/
structure Layout.Says (l : Layout) (f : Frame) : Prop where
  station : stationOfByte l.station = some f.station
  seq : l.seq = f.seq
  flags : beaconFlagsOf l.flags = f.flags
  period : periodOfCode l.code.toNat = some f.period
  deferral : beNat l.deferral = f.deferral
  ns : beNat l.ns < Config.nsPerSecond
  launch : beNat l.secs * Config.nsPerSecond + beNat l.ns = f.launch
  unc : beNat l.unc = f.statedUnc
  accusations : stationsOfBytes l.accusations = some f.accusations

/-- Reading a layout and its check. -/
theorem parseFrame_layout {l : Layout} (h : l.Sized) {crc : List Byte} (hcrc : crc.length = 2) (f : Frame) :
    parseFrame (l.bytes ++ crc) = some f ↔ l.count.toNat ≤ 4 ∧ (crc16 l.bytes).toNat = beNat crc ∧ l.Says f := by
  have hlen := layout_length h
  have htotal : (l.bytes ++ crc).length = 25 + l.count.toNat := by
    rw [List.length_append, hlen, hcrc]
    omega
  have hheader : (l.bytes ++ crc).getD 0 0 = l.station ∧ (l.bytes ++ crc).getD 1 0 = l.seq
      ∧ (l.bytes ++ crc).getD 2 0 = l.flags ∧ (l.bytes ++ crc).getD 3 0 = l.code := ⟨rfl, rfl, rfl, rfl⟩
  obtain ⟨h0, h1, h2, h3⟩ := hheader
  unfold parseFrame
  simp only [layout_count h, htotal, h0, h1, h2, h3, layout_deferral h, layout_secs h, layout_ns h, layout_unc h,
    layout_accusations h, List.take_left' hlen, List.drop_left' hlen, ne_eq, not_true_eq_false, decide_false, Bool.or_false,
    decide_eq_true_eq]
  by_cases hcount : 4 < l.count.toNat
  · simp [hcount, Nat.not_le.2 hcount]
  by_cases hcheck : (crc16 l.bytes).toNat = beNat crc
  swap
  · simp [hcount, hcheck]
  simp only [hcount, hcheck, if_false, not_true_eq_false]
  constructor
  · intro hf
    split at hf
    next p period acc hp hperiod hacc =>
      split at hf
      next hns =>
        cases hf
        exact ⟨Nat.not_lt.1 hcount, trivial, ⟨hp, rfl, rfl, hperiod, rfl, hns, rfl, rfl, hacc⟩⟩
      next => cases hf
    next => cases hf
  · rintro ⟨-, -, hs⟩
    simp only [hs.station, hs.period, hs.accusations, hs.ns, hs.seq, hs.flags, hs.deferral, hs.launch, hs.unc, if_true]

/-- The layout that says a frame, with its flags byte. -/
def layoutOf (f : Frame) (flags : Byte) : Layout where
  station := stationByte f.station
  seq := f.seq
  flags := flags
  code := BitVec.ofNat 8 f.period.code
  deferral := beBytes 4 f.deferral
  secs := beBytes 6 (f.launch / Config.nsPerSecond)
  ns := beBytes 4 (f.launch % Config.nsPerSecond)
  unc := beBytes 4 f.statedUnc
  count := BitVec.ofNat 8 f.accusations.length
  accusations := f.accusations.map stationByte

theorem period_idxOf (p : Period) : List.idxOf p [.ms125, .ms250, .ms500, .ms1000, .ms2000] = p.code := by cases p <;> rfl

theorem frameBody_eq (f : Frame) (flags : Byte) : frameBody f flags = (layoutOf f flags).bytes := by
  simp only [frameBody, Layout.bytes, layoutOf, bigEndian_eq, period_idxOf, List.append_assoc, List.cons_append, List.nil_append]
  rfl

theorem layoutOf_sized {f : Frame} (h : f.accusations.length ≤ 4) (flags : Byte) : (layoutOf f flags).Sized where
  deferral := beBytes_length _ _
  secs := beBytes_length _ _
  ns := beBytes_length _ _
  unc := beBytes_length _ _
  accusations := by
    rw [layoutOf, List.length_map, BitVec.toNat_ofNat]
    omega

/-- The ranges of a frame's fields, as their widths have them. -/
structure FrameInRange (f : Frame) : Prop where
  accusations : f.accusations.length ≤ 4
  deferral : f.deferral < 2 ^ 32
  launch : f.launch / 1000000000 < 2 ^ 48
  unc : f.statedUnc < 2 ^ 32

/-- A layout says a frame just when it is that frame's layout. -/
theorem says_iff {l : Layout} (h : l.Sized) {f : Frame} (hcount : l.count.toNat ≤ 4) :
    l.Says f ↔ FrameInRange f ∧ beaconFlagsOf l.flags = f.flags ∧ l = layoutOf f l.flags := by
  constructor
  · intro hs
    have hsecs := beNat_lt l.secs
    have hdeferral := beNat_lt l.deferral
    have hunc := beNat_lt l.unc
    rw [h.secs] at hsecs
    rw [h.deferral, hs.deferral] at hdeferral
    rw [h.unc, hs.unc] at hunc
    have hns := hs.ns
    have hlaunch := hs.launch
    have hacc := (stationsOfBytes_iff _ _).1 hs.accusations
    have hlen : f.accusations.length = l.count.toNat := by rw [← h.accusations, hacc, List.length_map]
    have hdiv : beNat l.secs = f.launch / Config.nsPerSecond := by
      simp only [Config.nsPerSecond] at hns hlaunch ⊢
      omega
    have hmod : beNat l.ns = f.launch % Config.nsPerSecond := by
      simp only [Config.nsPerSecond] at hns hlaunch ⊢
      omega
    refine ⟨⟨by omega, hdeferral, by simp only [Config.nsPerSecond] at hdiv; omega, hunc⟩, hs.flags, ?_⟩
    have hbytes {bs : List Byte} {n v : Nat} (hbs : bs.length = n) (hv : beNat bs = v) : bs = beBytes n v := by
      rw [← hbs, ← hv, beBytes_beNat]
    have hcountbyte : l.count = BitVec.ofNat 8 f.accusations.length := by
      rw [hlen, BitVec.ofNat_toNat, BitVec.setWidth_eq]
    obtain ⟨station, seq, flags, code, deferral, secs, ns, unc, count, accusations⟩ := l
    rw [layoutOf, Layout.mk.injEq]
    exact ⟨(stationOfByte_iff _ _).1 hs.station, hs.seq, rfl, (periodOfCode_iff _ _).1 hs.period,
      hbytes h.deferral hs.deferral, hbytes h.secs hdiv, hbytes h.ns hmod, hbytes h.unc hs.unc, hcountbyte, hacc⟩
  · rintro ⟨hr, hflags, hl⟩
    have hns : f.launch % Config.nsPerSecond < Config.nsPerSecond := Nat.mod_lt _ (by decide)
    have hnsnat : beNat (layoutOf f l.flags).ns = f.launch % Config.nsPerSecond :=
      beNat_beBytes (by simp only [Config.nsPerSecond] at hns ⊢; omega)
    have hsecsnat : beNat (layoutOf f l.flags).secs = f.launch / Config.nsPerSecond := beNat_beBytes hr.launch
    rw [hl]
    refine ⟨stationOfByte_stationByte _, rfl, hflags, periodOfCode_code _, beNat_beBytes hr.deferral, hnsnat ▸ hns, ?_,
      beNat_beBytes hr.unc, stationsOfBytes_map _⟩
    rw [hnsnat, hsecsnat, Nat.div_add_mod']

/-- The bytes of a well-formed frame are its body and the check over it (R22, R178, R179). -/
theorem parseFrame_iff (bs : List Byte) (f : Frame) :
    parseFrame bs = some f ↔
      FrameInRange f ∧ ∃ flags, beaconFlagsOf flags = f.flags
        ∧ bs = frameBody f flags ++ bigEndian 2 (crc16 (frameBody f flags)).toNat := by
  constructor
  · intro hf
    have hlen : bs.length = 25 + (bs.getD 22 0).toNat := by
      by_contra hne
      have hnone : parseFrame bs = none := if_pos (by simp only [hne, decide_true, Bool.or_true, ne_eq, not_false_eq_true])
      rw [hnone] at hf
      cases hf
    obtain ⟨l, crc, hsized, hcrc, rfl⟩ := exists_layout hlen
    obtain ⟨hcount, hcheck, hs⟩ := (parseFrame_layout hsized hcrc f).1 hf
    obtain ⟨hr, hflags, hl⟩ := (says_iff hsized hcount).1 hs
    refine ⟨hr, l.flags, hflags, ?_⟩
    rw [frameBody_eq, ← hl, bigEndian_eq, hcheck, ← hcrc, beBytes_beNat]
  · rintro ⟨hr, flags, hflags, rfl⟩
    have hsized := layoutOf_sized hr.accusations flags
    have hcount : (layoutOf f flags).count.toNat ≤ 4 := by
      rw [← hsized.accusations, layoutOf, List.length_map]
      exact hr.accusations
    rw [frameBody_eq, bigEndian_eq, parseFrame_layout hsized (beBytes_length _ _)]
    exact ⟨hcount, (beNat_beBytes (crc16 _).isLt).symm, (says_iff hsized hcount).2 ⟨hr, hflags, rfl⟩⟩

/-! ## Receptions (R22, R23, R24) -/

theorem bitsOfBytes_bytesOfBits (n : Nat) : ∀ bits : List Bool, bits.length = 8 * n → bitsOfBytes (bytesOfBits n bits) = bits := by
  induction n with
  | zero =>
    intro bits h
    rw [List.eq_nil_of_length_eq_zero h]
    rfl
  | succ n ih =>
    intro bits h
    have hdrop : (bits.drop 8).length = 8 * n := by
      rw [List.length_drop, h]
      omega
    have htake : (bits.take 8).length = 8 := List.length_take_of_le (by omega)
    rw [bytesOfBits, bitsOfBytes, List.flatMap_cons, bitsOfByte_byteOfBits_of_length htake]
    exact (congrArg (bits.take 8 ++ ·) (ih _ hdrop)).trans (List.take_append_drop 8 bits)

/-- Whole bytes of bits read as bytes, and back. -/
theorem bytesOfBits_eq_iff {bits : List Bool} (h : bits.length % 8 = 0) (bs : List Byte) :
    bytesOfBits (bits.length / 8) bits = bs ↔ bits = bitsOfBytes bs := by
  constructor
  · rintro rfl
    exact (bitsOfBytes_bytesOfBits _ _ (by omega)).symm
  · rintro rfl
    have hback := bytesOfBits_bitsOfBytes bs []
    rw [List.append_nil] at hback
    rw [bitsOfBytes_length, Nat.mul_div_cancel_left _ (by decide), hback]

theorem frameOf_eq (r : Reception) :
    frameOf r = if r.how = .idle ∧ r.bits.length % 8 = 0 then parseFrame (bytesOfBits (r.bits.length / 8) r.bits) else none := by
  simp [frameOf]

theorem frameOf_iff (r : Reception) (f : Frame) : frameOf r = some f ↔ Carries r f := by
  constructor
  · intro hf
    rw [frameOf_eq] at hf
    split at hf
    next hwhole =>
      obtain ⟨hr, flags, hflags, hbytes⟩ := (parseFrame_iff _ _).1 hf
      exact ⟨hwhole.1, hr.accusations, hr.deferral, hr.launch, hr.unc, flags, hflags.symm,
        (bytesOfBits_eq_iff hwhole.2 _).1 hbytes⟩
    next => cases hf
  · rintro ⟨hhow, hacc, hdeferral, hlaunch, hunc, flags, hflags, hbits⟩
    have hwhole : r.bits.length % 8 = 0 := by
      rw [hbits, bitsOfBytes_length]
      exact Nat.mul_mod_right _ _
    rw [frameOf_eq, if_pos ⟨hhow, hwhole⟩, parseFrame_iff]
    exact ⟨⟨hacc, hdeferral, hlaunch, hunc⟩, flags, hflags.symm, (bytesOfBits_eq_iff hwhole _).2 hbits⟩

theorem exec_receptionEnd_none {r : Reception} {rest : List Reception} {s : State} (h : s.span.ended = r :: rest)
    (hf : frameOf r = none) : exec .receptionEnd s = .next (s.onSpan fun sp => { sp with ended := rest }) := by
  change execReceptionEnd s = _
  simp only [execReceptionEnd, h, hf]

theorem exec_receptionEnd_some {r : Reception} {rest : List Reception} {s : State} (h : s.span.ended = r :: rest) {f : Frame}
    (hf : frameOf r = some f) {rd : Readings} (hrd : r.readings = some rd) :
    exec .receptionEnd s = .next ((s.onSpan fun sp => { sp with ended := rest }).classFrame f rd) := by
  change execReceptionEnd s = _
  simp only [execReceptionEnd, h, hf, hrd]

section
variable {f : Frame} {rd : Readings} {s : State}

theorem classFrame_config (hst : f.station ≠ s.svc.station) (hown : rd.own = false) (hsync : s.agu.sync = .config) :
    s.classFrame f rd = s := by
  simp [State.classFrame, hst, hown, hsync]

theorem classFrame_handsOn (hst : f.station ≠ s.svc.station) (hown : rd.own = false) (hsync : s.agu.sync ≠ .config) :
    s.classFrame f rd = s.onNet fun n => { n with handOffs := n.handOffs ++ [handOffOf f rd] } := by
  simp only [State.classFrame, if_neg hst, hown, Bool.false_eq_true, if_false]

theorem classFrame_loopback (hst : f.station = s.svc.station) (hown : rd.own = true) : s.classFrame f rd = s := by
  rw [State.classFrame, if_pos hst, if_pos hown]

theorem classFrame_duplicate (hst : f.station = s.svc.station) (hown : rd.own = false) :
    s.classFrame f rd = s.hearDuplicate := by
  rw [State.classFrame, if_pos hst, hown, if_neg Bool.false_ne_true]

theorem hearDuplicate_muted (htx : s.span.tx = .muted) : s.hearDuplicate = s := by
  rw [State.hearDuplicate, htx]

theorem hearDuplicate_mutes (hmuted : s.span.tx ≠ .muted) (hsending : s.span.tx ≠ .sending) :
    s.hearDuplicate = (s.onSpan mute).onNet fun n => { n with duplicates := n.duplicates ++ [clockNs s] } := by
  unfold State.hearDuplicate
  split
  next htx => exact (hsending htx).elim
  next htx => exact (hmuted htx).elim
  next => rfl

end

/-- Settles O24. -/
theorem receptionClassed : Obligations.ReceptionClassed := by
  refine ⟨frameOf_iff, ?_⟩
  intro r rest s hended dropped
  refine ⟨fun hpart => ?_, fun hbad => ?_, fun f rd hcarries hrd => ?_⟩
  · refine exec_receptionEnd_none hended ?_
    rw [frameOf_eq, if_neg (by tauto)]
  · exact exec_receptionEnd_none hended (Option.eq_none_iff_forall_ne_some.2 fun f hf => hbad f ((frameOf_iff r f).1 hf))
  · have hexec : exec .receptionEnd s = .next (dropped.classFrame f rd) :=
      exec_receptionEnd_some hended ((frameOf_iff r f).2 hcarries) hrd
    rw [hexec]
    refine ⟨fun hst hown hsync => ?_, fun hst hown hsync => ?_, fun hst hown => ?_, fun hst hown htx => ?_,
      fun hst hown hmuted hsending => ?_⟩
    · rw [classFrame_config (s := dropped) hst hown hsync]
    · rw [classFrame_handsOn (s := dropped) hst hown hsync]
      rfl
    · rw [classFrame_loopback (s := dropped) hst hown]
    · rw [classFrame_duplicate (s := dropped) hst hown, hearDuplicate_muted (s := dropped) htx]
    · rw [classFrame_duplicate (s := dropped) hst hown, hearDuplicate_mutes (s := dropped) hmuted hsending]
      rfl

end Sys2Proof.FrameLaws
end

section
/-! DMON as its statements give it: the accusation list, the warning list's notices, verdicts, and a whole review. -/

namespace Sys2Proof.Reviews

open Sys2Proof.Machine Sys2Proof.Frames Sys2Proof.WarningLaws

/-! ## The accusation list (R100) -/

/-- Among drifting peers: the larger d first, of equal ones the lower peer. -/
def DriftOrder (s : State) (p q : Station) : Prop :=
  (s.dmon.drift[q].d).natAbs < (s.dmon.drift[p].d).natAbs
    ∨ (s.dmon.drift[q].d).natAbs = (s.dmon.drift[p].d).natAbs ∧ p < q

theorem insertByDrift_perm (s : State) (p : Station) (qs : List Station) : (insertByDrift s p qs).Perm (p :: qs) := by
  induction qs with
  | nil => exact .refl _
  | cons q qs ih =>
    unfold insertByDrift
    split
    · exact .refl _
    · exact (ih.cons q).trans (.swap p q qs)

theorem insertByDrift_pairwise (s : State) {p : Station} {qs : List Station} (hlow : ∀ q ∈ qs, p < q)
    (h : qs.Pairwise (DriftOrder s)) : (insertByDrift s p qs).Pairwise (DriftOrder s) := by
  induction qs with
  | nil => exact List.pairwise_singleton _ _
  | cons q qs ih =>
    obtain ⟨hq, hqs⟩ := List.pairwise_cons.1 h
    have hpq : p < q := hlow q List.mem_cons_self
    unfold insertByDrift
    split
    next hle =>
      have hfirst : DriftOrder s p q := (Nat.lt_or_eq_of_le hle).imp id fun heq => ⟨heq, hpq⟩
      refine List.pairwise_cons.2 ⟨fun r hr => ?_, h⟩
      rcases List.mem_cons.1 hr with rfl | hr
      · exact hfirst
      · have hpr := hlow r (List.mem_cons_of_mem _ hr)
        rcases hq r hr with hlt | ⟨heq, -⟩
        · exact .inl (hlt.trans_le hle)
        · exact (Nat.lt_or_eq_of_le (heq.trans_le hle)).imp id fun heq' => ⟨heq', hpr⟩
    next hgt =>
      refine List.pairwise_cons.2 ⟨fun r hr => ?_, ih (fun r hr => hlow r (List.mem_cons_of_mem _ hr)) hqs⟩
      rcases List.mem_cons.1 ((insertByDrift_perm s p qs).subset hr) with rfl | hr
      · exact .inl (Nat.not_le.1 hgt)
      · exact hq r hr

/-- Peers in ascending order, sorted by abs(d). -/
theorem foldr_insertByDrift (s : State) (ps : List Station) :
    (ps.foldr (insertByDrift s) []).Perm ps
      ∧ (ps.Pairwise (· < ·) → (ps.foldr (insertByDrift s) []).Pairwise (DriftOrder s)) := by
  induction ps with
  | nil => exact ⟨.refl _, fun _ => .nil⟩
  | cons p ps ih =>
    obtain ⟨hperm, hpairwise⟩ := ih
    refine ⟨(insertByDrift_perm s p _).trans (hperm.cons p), fun h => ?_⟩
    obtain ⟨hp, hps⟩ := List.pairwise_cons.1 h
    exact insertByDrift_pairwise s (fun q hq => hp q (hperm.subset hq)) (hpairwise hps)

theorem stations_pairwise : stations.Pairwise (· < ·) := List.pairwise_lt_finRange 32

theorem accusedDrifting_iff (s : State) (p : Station) :
    accusedDrifting s p = true ↔ p ≠ s.svc.station ∧ accusedAsDrifting s p := by
  simp [accusedDrifting, accusedAsDrifting, and_assoc]

theorem accusedBarred_iff (s : State) (p : Station) :
    accusedBarred s p = true ↔ p ≠ s.svc.station ∧ s.ptab[p].link = .barred ∧ ¬accusedAsDrifting s p := by
  have hd := accusedDrifting_iff s p
  cases hdrifting : accusedDrifting s p <;> simp [accusedBarred, hdrifting] at hd ⊢ <;> tauto

/-- Everyone to be accused, in order, before the cut. -/
def accusedInOrder (s : State) : List Station :=
  (stations.filter (accusedDrifting s)).foldr (insertByDrift s) [] ++ stations.filter (accusedBarred s)

theorem mem_accusedInOrder (s : State) (p : Station) : p ∈ accusedInOrder s ↔ toBeAccused s p := by
  have hsorted : p ∈ (stations.filter (accusedDrifting s)).foldr (insertByDrift s) [] ↔ accusedDrifting s p = true := by
    rw [((foldr_insertByDrift s _).1).mem_iff, List.mem_filter]
    exact and_iff_right (mem_stations p)
  have hbarred : p ∈ stations.filter (accusedBarred s) ↔ accusedBarred s p = true :=
    List.mem_filter.trans (and_iff_right (mem_stations p))
  rw [accusedInOrder, List.mem_append, hsorted, hbarred, accusedDrifting_iff, accusedBarred_iff, toBeAccused]
  tauto

theorem accusedInOrder_pairwise (s : State) : (accusedInOrder s).Pairwise (accusedBefore s) := by
  obtain ⟨hperm, hsorted⟩ := foldr_insertByDrift s (stations.filter (accusedDrifting s))
  have hdrifting {p : Station} (hp : p ∈ (stations.filter (accusedDrifting s)).foldr (insertByDrift s) []) :
      accusedAsDrifting s p :=
    ((accusedDrifting_iff s p).1 (List.mem_filter.1 (hperm.subset hp)).2).2
  have hbarred {p : Station} (hp : p ∈ stations.filter (accusedBarred s)) : ¬accusedAsDrifting s p :=
    ((accusedBarred_iff s p).1 (List.mem_filter.1 hp).2).2.2
  refine List.pairwise_append.2 ⟨?_, ?_, fun p hp q hq => .inl ⟨hdrifting hp, hbarred hq⟩⟩
  · exact (hsorted (stations_pairwise.filter _)).imp_of_mem fun hp hq horder => .inr (.inl ⟨hdrifting hp, hdrifting hq, horder⟩)
  · exact (stations_pairwise.filter _).imp_of_mem fun hp hq hlt => .inr (.inr ⟨hbarred hp, hbarred hq, hlt⟩)

theorem accusedBefore_irrefl (s : State) (p : Station) : ¬accusedBefore s p p := by
  rintro (⟨h, hnot⟩ | ⟨-, -, h | ⟨-, h⟩⟩ | ⟨-, -, h⟩)
  · exact hnot h
  all_goals exact lt_irrefl _ h

/-- Settles O28. -/
theorem accusationListGiven : Obligations.AccusationListGiven := by
  intro f s hframe hnone
  have hordered := accusedInOrder_pairwise s
  have hsplit : accusationList s ++ (accusedInOrder s).drop 4 = accusedInOrder s := List.take_append_drop 4 _
  have hcut : (accusationList s).Sublist (accusedInOrder s) := List.take_sublist 4 _
  refine ⟨accusationList s, ?_, List.length_take_le 4 _, ?_, fun p hp => (mem_accusedInOrder s p).1 (hcut.subset hp),
    hordered.sublist hcut, fun p hp hout => ?_⟩
  · change execAccusationList s = _
    simp only [execAccusationList, hframe, hnone]
    rfl
  · refine (hordered.sublist hcut).imp ?_
    rintro p _ hbefore rfl
    exact accusedBefore_irrefl s p hbefore
  · have hmem := (mem_accusedInOrder s p).2 hp
    rw [← hsplit, List.mem_append] at hmem
    have hdropped : p ∈ (accusedInOrder s).drop 4 := hmem.resolve_left hout
    rw [← hsplit, List.pairwise_append] at hordered
    refine ⟨?_, fun q hq => hordered.2.2 q hq p hdropped⟩
    have hlong : 4 < (accusedInOrder s).length := by
      by_contra hle
      rw [List.drop_eq_nil_of_le (Nat.not_lt.1 hle)] at hdropped
      cases hdropped
    exact List.length_take_of_le hlong.le

/-! ## Notices that reach the warning list (R103, R104) -/

theorem isFor_iff (k : WarningKind) (subj : Subject) (w : Warning) :
    Warning.isFor k subj w = true ↔ w.kind = k ∧ w.subject = subj := by
  simp [Warning.isFor]

theorem removeWarning_removed {s : State} (h : WarningsStanding s) (k : WarningKind) : RemovedOwn k s (s.removeWarning k .own) := by
  refine ⟨fun habsent => removeWarning_absent habsent, fun a w b hws hkind hsubject => ?_⟩
  obtain ⟨-, hdistinct, -⟩ := h
  rw [hws] at hdistinct
  obtain ⟨-, hwb, haw⟩ := List.pairwise_append.1 hdistinct
  have hpresent : s.dmon.warnings.any (Warning.isFor k .own) = true :=
    List.any_eq_true.2 ⟨w, hws ▸ List.mem_append_right _ List.mem_cons_self, (isFor_iff _ _ w).2 ⟨hkind, hsubject⟩⟩
  have hkeep {xs : List Warning} (hxs : ∀ x ∈ xs, x.kind ≠ w.kind ∨ x.subject ≠ w.subject) :
      xs.filter (fun x => !(Warning.isFor k .own x)) = xs := by
    refine List.filter_eq_self.2 fun x hx => ?_
    rw [Bool.not_eq_true', ← Bool.not_eq_true, isFor_iff]
    rintro ⟨hk, hsub⟩
    exact (hxs x hx).elim (· (hk.trans hkind.symm)) (· (hsub.trans hsubject.symm))
  have hfiltered : (s.removeWarning k .own).dmon.warnings = a ++ b := by
    rw [removeWarning_warnings, hws, List.filter_append, List.filter_cons_of_neg (by simp [(isFor_iff _ _ w).2 ⟨hkind, hsubject⟩]),
      hkeep fun x hx => haw x hx w List.mem_cons_self,
      hkeep fun x hx => ((List.pairwise_cons.1 hwb).1 x hx).imp Ne.symm Ne.symm]
  have hexact : s.removeWarning k .own = { s with
      dmon := { s.dmon with warnings := (s.removeWarning k .own).dmon.warnings }
      svc := { s.svc with warningsChanged := true } } := by
    rw [State.removeWarning, if_pos hpresent]
    rfl
  rw [hexact, hfiltered]

/-- Settles O29. -/
theorem warningsRaisedAndRemoved : Obligations.WarningsRaisedAndRemoved := by
  intro s h
  refine ⟨fun time rest hnotice => ?_, fun time rest hnotice => ?_, ?_⟩
  · have hexec : exec .fallbackNoticeAtDmon s = execFallbackNoticeAtDmon s := rfl
    rw [hexec, execFallbackNoticeAtDmon, hnotice]
    exact ⟨_, rfl, raiseWarning_raised _ h.1⟩
  · have hexec : exec .duplicateNotice s = execDuplicateNotice s := rfl
    rw [hexec, execDuplicateNotice, hnotice]
    exact ⟨_, rfl, raiseWarning_raised _ h.1⟩
  · intro k a b hfront kind
    have hkind : kind = noticeWarning k := rfl
    rw [hkind]
    refine ⟨fun time hnotice => ?_, fun hnotice => ?_⟩
    · have hexec : exec (.raiseNotice k) s = execRaiseNotice k s := rfl
      rw [hexec, execRaiseNotice, hnotice, takeNotice_append k _ b rfl a hfront]
      exact ⟨_, rfl, raiseWarning_raised _ h.1⟩
    · have hexec : exec (.removalNotice k) s = execRemovalNotice k s := rfl
      rw [hexec, execRemovalNotice, hnotice, takeNotice_append k _ b rfl a hfront]
      exact ⟨_, rfl, removeWarning_removed (s := { s with net := { s.net with warn := a ++ b } }) h _⟩

/-! ## Verdicts (R95) -/

/-- Settles O43. -/
theorem verdictMoves : Obligations.VerdictMoves := by
  intro l d
  refine ⟨fun hover => ?_, fun hhalf hwithin => ?_, fun hlow => ?_⟩
  · have hhigh : ¬2 * d.natAbs ≤ l := by omega
    simp [nextVerdict, hover, hhigh]
  · have hnot : ¬l < d.natAbs := Nat.not_lt.2 hwithin
    have hhigh : ¬2 * d.natAbs ≤ l := Nat.not_le.2 hhalf
    simp [nextVerdict, hnot, hhigh]
  · have hnot : ¬l < d.natAbs := by omega
    simp [nextVerdict, hnot, hlow]

end Sys2Proof.Reviews
end

section
/-! A whole review: the reference rate, every verdict, and the warning list as all its judgments leave it. -/

namespace Sys2Proof.ReviewHeld

open Sys2Proof.Machine Sys2Proof.Frames Sys2Proof.WarningLaws Sys2Proof.Reviews

/-! ## Numbers (R94, R97) -/

theorem roundHalfAway_eq (num : Int) (den : Nat) : roundHalfAway num den = rounded num den := by
  unfold roundHalfAway rounded
  rcases lt_trichotomy num 0 with h | h | h
  · rw [if_pos h, Int.sign_eq_neg_one_of_neg h, neg_one_mul]
  · subst h
    have hzero : den / (2 * den) = 0 := by
      rcases Nat.eq_zero_or_pos den with rfl | hpos
      · rfl
      · exact Nat.div_eq_of_lt (by omega)
    simp [hzero]
  · rw [if_neg h.not_gt, Int.sign_eq_one_of_pos h, one_mul]

theorem trimPosted_eq (trim ref : Int) :
    trimPosted trim ref = max (-67108) (min 67108 (trim + rounded (ref * 671088640) 2000000000)) := by
  rw [trimPosted, satAbs_eq (by decide), roundHalfAway_eq]
  rfl

theorem reviewTicks_eq (s : State) : reviewTicks s = s.svc.image.reviewS * 25000000 := by
  have h : reviewTicks s = (s.svc.image.reviewS * 1000000000 + 39) / 40 := rfl
  omega

theorem insertRate_eq (x : Int) (rs : List Int) : insertRate x rs = rs.orderedInsert (· ≤ ·) x := by
  induction rs with
  | nil => rfl
  | cons r rs ih => simp only [insertRate, List.orderedInsert_cons, ih]

theorem sortRates_eq (rs : List Int) : sortRates rs = rs.insertionSort (· ≤ ·) := by
  induction rs with
  | nil => rfl
  | cons r rs ih =>
    rw [List.insertionSort_cons, ← ih, ← insertRate_eq]
    rfl

theorem sortRates_perm (rs : List Int) : (sortRates rs).Perm rs := sortRates_eq rs ▸ List.perm_insertionSort _ rs

theorem sortRates_pairwise (rs : List Int) : (sortRates rs).Pairwise (· ≤ ·) :=
  sortRates_eq rs ▸ List.pairwise_insertionSort (· ≤ ·) rs

/-- The reference rate stands at its position. -/
theorem referenceRate_at {rates : List Int} (h : rates ≠ []) :
    (sortRates rates)[(rates.length + 1) / 2 - 1]? = some (referenceRate rates) := by
  have hpos : 0 < rates.length := List.length_pos_iff.2 h
  have hlt : (rates.length + 1) / 2 - 1 < (sortRates rates).length := by
    rw [(sortRates_perm rates).length_eq]
    omega
  rw [referenceRate, List.getD_eq_getElem?_getD, List.getElem?_eq_getElem hlt, Option.getD_some]

theorem reviewRate_eq (s : State) (p : Station) :
    reviewRate s p =
      if p ≠ s.svc.station ∧ s.dmon.drift[p].fresh = true ∧ s.ptab[p].link = .admitted then s.dmon.drift[p].rate else none := by
  simp [reviewRate, and_assoc]

/-! ## One judgment, and what a list of them makes of the warnings (R95, R96, R103, R104) -/

/-- A verdict that moved, of one station. -/
structure Judgment where
  kind : WarningKind
  subject : Subject
  was : Verdict
  becomes : Verdict
  d : Int

/-- Does it take this warning out? -/
def Judgment.removes (j : Judgment) (w : Warning) : Bool :=
  j.becomes = .steady && j.was ≠ .steady && Warning.isFor j.kind j.subject w

/-- Does it put a warning into this list? -/
def Judgment.raises (ws : List Warning) (j : Judgment) : Bool :=
  j.becomes = .drifting && j.was ≠ .drifting && !(ws.any (Warning.isFor j.kind j.subject))

/-- The warning it raises. -/
def Judgment.warning (now : Nat) (j : Judgment) : Warning := { kind := j.kind, subject := j.subject, time := now, value := j.d }

/-- The verdict's warning is kept in step with it. -/
def Judgment.heard (j : Judgment) (s : State) : State := s.warnVerdict j.kind j.subject j.was j.becomes j.d

/-- The warnings that no judgment takes out. -/
def keptBy (js : List Judgment) (ws : List Warning) : List Warning := ws.filter fun w => !(js.any fun j => j.removes w)

/-- The warnings that the judgments put in, in the order of the judgments. -/
def addedBy (now : Nat) (js : List Judgment) (ws : List Warning) : List Warning :=
  (js.filter (Judgment.raises ws)).map (Judgment.warning now)

/-- New warnings raised now go in behind those raised no later and before those raised later. -/
def spliced (now : Nat) (kept added : List Warning) : List Warning :=
  kept.filter (fun w => w.time ≤ now) ++ added ++ kept.filter (fun w => now < w.time)

theorem removes_iff (j : Judgment) (w : Warning) :
    j.removes w = true ↔ j.becomes = .steady ∧ j.was ≠ .steady ∧ w.kind = j.kind ∧ w.subject = j.subject := by
  simp [Judgment.removes, Warning.isFor, and_assoc]

theorem raises_iff (ws : List Warning) (j : Judgment) :
    j.raises ws = true ↔ j.becomes = .drifting ∧ j.was ≠ .drifting ∧ ¬Warned ws j.kind j.subject := by
  rw [Judgment.raises, Warned, ← any_isFor_iff]
  simp [and_assoc]

theorem mem_keptBy (js : List Judgment) (ws : List Warning) (w : Warning) :
    w ∈ keptBy js ws ↔ w ∈ ws ∧ ∀ j ∈ js, j.removes w = false := by
  simp [keptBy]

theorem mem_addedBy (now : Nat) (js : List Judgment) (ws : List Warning) (w : Warning) :
    w ∈ addedBy now js ws ↔ ∃ j ∈ js, j.raises ws = true ∧ j.warning now = w := by
  simp [addedBy, and_assoc]

theorem mem_spliced (now : Nat) (kept added : List Warning) (w : Warning) : w ∈ spliced now kept added ↔ w ∈ kept ∨ w ∈ added := by
  have htime : w.time ≤ now ∨ now < w.time := le_or_gt _ _
  simp only [spliced, List.mem_append, List.mem_filter, decide_eq_true_eq]
  tauto

theorem keptBy_snoc (js : List Judgment) (j : Judgment) (ws : List Warning) :
    keptBy (js ++ [j]) ws = (keptBy js ws).filter fun w => !(j.removes w) := by
  simp only [keptBy, List.filter_filter, List.any_append, List.any_cons, List.any_nil, Bool.or_false, Bool.not_or]
  exact List.filter_congr fun w _ => Bool.and_comm _ _

theorem keptBy_snoc_same {js : List Judgment} {j : Judgment} {ws : List Warning} (h : ∀ w, j.removes w = false) :
    keptBy (js ++ [j]) ws = keptBy js ws := by
  rw [keptBy_snoc]
  simp [h]

theorem addedBy_snoc (now : Nat) (js : List Judgment) (j : Judgment) (ws : List Warning) :
    addedBy now (js ++ [j]) ws = addedBy now js ws ++ if j.raises ws then [j.warning now] else [] := by
  rw [addedBy, List.filter_append, List.map_append, List.filter_singleton]
  cases j.raises ws <;> rfl

theorem spliced_nil {now : Nat} {ws : List Warning} (h : ws.Pairwise fun v w => v.time ≤ w.time) : spliced now ws [] = ws := by
  induction ws with
  | nil => rfl
  | cons w ws ih =>
    obtain ⟨hw, hws⟩ := List.pairwise_cons.1 h
    by_cases hnow : w.time ≤ now
    · have hih := ih hws
      simp only [spliced, List.append_nil] at hih ⊢
      rw [List.filter_cons_of_pos (by simpa using hnow), List.filter_cons_of_neg (by simpa using hnow), List.cons_append, hih]
    · have hlate : ∀ x ∈ w :: ws, now < x.time := by
        intro x hx
        rcases List.mem_cons.1 hx with rfl | hx
        · exact Nat.not_le.1 hnow
        · exact (Nat.not_le.1 hnow).trans_le (hw x hx)
      have hnone : (w :: ws).filter (fun w => w.time ≤ now) = [] :=
        List.filter_eq_nil_iff.2 fun x hx => by simpa using hlate x hx
      have hall : (w :: ws).filter (fun w => now < w.time) = w :: ws :=
        List.filter_eq_self.2 fun x hx => by simpa using hlate x hx
      rw [spliced, hnone, hall]
      rfl

theorem insertWarning_append {w : Warning} {a b : List Warning} (ha : ∀ x ∈ a, x.time ≤ w.time) (hb : ∀ x ∈ b, w.time < x.time) :
    insertWarning w (a ++ b) = a ++ w :: b := by
  induction a with
  | nil =>
    cases b with
    | nil => rfl
    | cons x b => exact if_pos (hb x List.mem_cons_self)
  | cons x a ih =>
    have hx : ¬w.time < x.time := Nat.not_lt.2 (ha x List.mem_cons_self)
    rw [List.cons_append, insertWarning, if_neg hx, ih fun y hy => ha y (List.mem_cons_of_mem _ hy), List.cons_append]

theorem insertWarning_spliced {now : Nat} {w : Warning} (hw : w.time = now) {kept added : List Warning}
    (hadded : ∀ x ∈ added, x.time = now) : insertWarning w (spliced now kept added) = spliced now kept (added ++ [w]) := by
  rw [spliced, insertWarning_append, spliced]
  · simp
  · intro x hx
    rcases List.mem_append.1 hx with hx | hx
    · rw [hw]
      simpa using (List.mem_filter.1 hx).2
    · rw [hw, hadded x hx]
  · intro x hx
    rw [hw]
    simpa using (List.mem_filter.1 hx).2

theorem filter_spliced {now : Nat} {q : Warning → Bool} {kept added : List Warning} (hadded : ∀ x ∈ added, q x = true) :
    (spliced now kept added).filter q = spliced now (kept.filter q) added := by
  simp only [spliced, List.filter_append, List.filter_filter, List.filter_eq_self.2 hadded]
  congr 2
  · congr 1
    exact funext fun w => Bool.and_comm _ _
  · exact funext fun w => Bool.and_comm _ _

/-- The warnings of `s` after these judgments. -/
def warningsAfter (s : State) (js : List Judgment) : List Warning :=
  spliced (clockNs s) (keptBy js s.dmon.warnings) (addedBy (clockNs s) js s.dmon.warnings)

/-- No judgment of the list is about this station and kind. -/
def Unjudged (js : List Judgment) (j : Judgment) : Prop := ∀ i ∈ js, ¬(i.kind = j.kind ∧ i.subject = j.subject)

theorem warned_warningsAfter {s : State} {js : List Judgment} {j : Judgment} (h : Unjudged js j) :
    Warned (warningsAfter s js) j.kind j.subject ↔ Warned s.dmon.warnings j.kind j.subject := by
  constructor
  · rintro ⟨w, hw, hkind, hsubject⟩
    rcases (mem_spliced _ _ _ _).1 hw with hw | hw
    · exact ⟨w, ((mem_keptBy _ _ _).1 hw).1, hkind, hsubject⟩
    · obtain ⟨i, hi, -, rfl⟩ := (mem_addedBy _ _ _ _).1 hw
      exact (h i hi ⟨hkind, hsubject⟩).elim
  · rintro ⟨w, hw, hkind, hsubject⟩
    refine ⟨w, (mem_spliced _ _ _ _).2 (.inl ((mem_keptBy _ _ _).2 ⟨hw, fun i hi => ?_⟩)), hkind, hsubject⟩
    rw [← Bool.not_eq_true, removes_iff]
    rintro ⟨-, -, hk, hs⟩
    exact h i hi ⟨hk.symm.trans hkind, hs.symm.trans hsubject⟩

/-- `u`'s list and its flag are those of `s` after these judgments. -/
structure Judged (s : State) (js : List Judgment) (u : State) : Prop where
  warnings : u.dmon.warnings = warningsAfter s js
  unchanged : u.dmon.warnings = s.dmon.warnings → u.svc.warningsChanged = s.svc.warningsChanged
  changed : u.dmon.warnings ≠ s.dmon.warnings → u.svc.warningsChanged = true

theorem Judged.congr {s u t : State} {js : List Judgment} (h : Judged s js u) (hwarnings : t.dmon.warnings = u.dmon.warnings)
    (hflag : t.svc.warningsChanged = u.svc.warningsChanged) : Judged s js t where
  warnings := hwarnings.trans h.warnings
  unchanged heq := hflag.trans (h.unchanged (hwarnings.symm.trans heq))
  changed hne := hflag.trans (h.changed (hwarnings ▸ hne))

theorem judged_nil {s : State} (h : WarningsStanding s) : Judged s [] s where
  warnings := by
    have hkept : keptBy [] s.dmon.warnings = s.dmon.warnings := by simp [keptBy]
    rw [warningsAfter, hkept]
    exact (spliced_nil h.1).symm
  unchanged _ := rfl
  changed hne := (hne rfl).elim

/-- A judgment that neither raises nor removes anything. -/
theorem Judged.still {s u : State} {js : List Judgment} (h : Judged s js u) {j : Judgment}
    (hremoves : ∀ w ∈ keptBy js s.dmon.warnings, j.removes w = false) (hraises : j.raises s.dmon.warnings = false) :
    Judged s (js ++ [j]) u where
  warnings := by
    have hkept : (keptBy js s.dmon.warnings).filter (fun w => !(j.removes w)) = keptBy js s.dmon.warnings :=
      List.filter_eq_self.2 fun w hw => by simp [hremoves w hw]
    rw [h.warnings, warningsAfter, warningsAfter, keptBy_snoc, hkept, addedBy_snoc, hraises]
    simp
  unchanged := h.unchanged
  changed := h.changed

/-- A judgment about a station not yet judged. -/
theorem Judged.snoc {s u : State} {js : List Judgment} (h : Judged s js u) {j : Judgment} (hfresh : Unjudged js j)
    (hclock : clockNs u = clockNs s) : Judged s (js ++ [j]) (j.heard u) := by
  have hwarned : Warned u.dmon.warnings j.kind j.subject ↔ Warned s.dmon.warnings j.kind j.subject := by
    rw [h.warnings]
    exact warned_warningsAfter hfresh
  have hremoves (hnot : ¬(j.becomes = .steady ∧ j.was ≠ .steady)) (w : Warning) : j.removes w = false := by
    rw [← Bool.not_eq_true, removes_iff]
    tauto
  have hraises (hnot : ¬(j.becomes = .drifting ∧ j.was ≠ .drifting)) : j.raises s.dmon.warnings = false := by
    rw [← Bool.not_eq_true, raises_iff]
    tauto
  unfold Judgment.heard State.warnVerdict
  split
  next hsame => exact h.still (fun w _ => hremoves (by rw [hsame]; tauto) w) (hraises (by rw [hsame]; tauto))
  next hmoved =>
    split
    next hdrifting =>
      have hkeeps := hremoves (by simp [hdrifting])
      by_cases hpresent : Warned u.dmon.warnings j.kind j.subject
      · rw [raiseWarning_present hpresent]
        refine h.still (fun w _ => hkeeps w) ?_
        rw [← Bool.not_eq_true, raises_iff]
        exact fun hr => hr.2.2 (hwarned.1 hpresent)
      · have hnew := raiseWarning_inserts (w := j.warning (clockNs u)) hpresent
        have hadds : j.raises s.dmon.warnings = true :=
          (raises_iff _ _).2 ⟨hdrifting, fun hwas => hmoved (hdrifting.trans hwas.symm), mt hwarned.2 hpresent⟩
        have hne : (u.raiseWarning (j.warning (clockNs u))).dmon.warnings ≠ s.dmon.warnings := fun heq =>
          mt hwarned.2 hpresent ⟨j.warning (clockNs u), heq ▸ hnew ▸ (mem_insertWarning _ _ _).2 (.inl rfl), rfl, rfl⟩
        refine ⟨hnew.trans ?_, fun heq => (hne heq).elim, fun _ => ?_⟩
        · rw [h.warnings, warningsAfter, warningsAfter, keptBy_snoc_same hkeeps, addedBy_snoc, if_pos hadds, hclock]
          refine insertWarning_spliced rfl fun x hx => ?_
          obtain ⟨i, -, -, rfl⟩ := (mem_addedBy _ _ _ _).1 hx
          rfl
        · rw [State.raiseWarning, if_neg (mt (any_isFor_iff _ _ _).1 hpresent)]
          rfl
    next hnotdrifting =>
      have hquiet := hraises fun hd => hnotdrifting hd.1
      split
      next hsteady =>
        have hwas : j.was ≠ .steady := fun hwas => hmoved (hsteady.trans hwas.symm)
        by_cases hpresent : Warned u.dmon.warnings j.kind j.subject
        · have hgone := removeWarning_warnings j.kind j.subject u
          have hne : (u.removeWarning j.kind j.subject).dmon.warnings ≠ s.dmon.warnings := fun heq => by
            have hstill := hwarned.1 hpresent
            rw [← heq, warned_removeWarning] at hstill
            exact hstill.2 ⟨rfl, rfl⟩
          refine ⟨hgone.trans ?_, fun heq => (hne heq).elim, fun _ => ?_⟩
          · rw [h.warnings, warningsAfter, warningsAfter, keptBy_snoc, addedBy_snoc, hquiet, filter_spliced]
            · simp [Judgment.removes, hsteady, hwas]
            · intro x hx
              obtain ⟨i, hi, -, rfl⟩ := (mem_addedBy _ _ _ _).1 hx
              have hother := hfresh i hi
              rw [Bool.not_eq_true', ← Bool.not_eq_true, isFor_iff]
              exact hother
          · rw [State.removeWarning, if_pos ((any_isFor_iff _ _ _).2 hpresent)]
            rfl
        · have habsent : u.removeWarning j.kind j.subject = u :=
            removeWarning_absent fun x hx => not_and_or.1 fun hx' => hpresent ⟨x, hx, hx'⟩
          rw [habsent]
          refine h.still (fun w hw => ?_) hquiet
          rw [← Bool.not_eq_true, removes_iff]
          rintro ⟨-, -, hkind, hsubject⟩
          exact mt hwarned.2 hpresent ⟨w, ((mem_keptBy _ _ _).1 hw).1, hkind, hsubject⟩
      next hnotsteady => exact h.still (fun w _ => hremoves (fun hs => hnotsteady hs.1) w) hquiet

/-! ## All the judgments of a review (R94 to R96, R98) -/

/-- The judgment of a peer with this review rate. -/
def peerJudgment (s : State) (ref : Int) (p : Station) (rho : Int) : Judgment where
  kind := .peerDrifting
  subject := .peer p
  was := s.dmon.drift[p].verdict
  becomes := nextVerdict (profileAttrs s.svc.image s.ptab[p].profile).driftLimit s.dmon.drift[p].verdict (rho - ref)
  d := rho - ref

/-- The judgment of the own clock. -/
def ownJudgment (s : State) (ref : Int) : Judgment where
  kind := .selfDrifting
  subject := .own
  was := s.dmon.ownVerdict
  becomes := nextVerdict s.svc.image.dflt.driftLimit s.dmon.ownVerdict (-ref)
  d := -ref

/-- The judgments of these peers. -/
def peerJudgments (s : State) (ref : Int) (ps : List Station) : List Judgment :=
  ps.filterMap fun p => (reviewRate s p).map (peerJudgment s ref p)

/-- The drift record of a peer once it is judged. -/
def judgedRecord (s : State) (ref : Int) (p : Station) : DriftRecord :=
  match reviewRate s p with
  | none => s.dmon.drift[p]
  | some rho => { s.dmon.drift[p] with verdict := (peerJudgment s ref p rho).becomes, d := rho - ref }

theorem mem_peerJudgments (s : State) (ref : Int) (ps : List Station) (j : Judgment) :
    j ∈ peerJudgments s ref ps ↔ ∃ p ∈ ps, ∃ rho, reviewRate s p = some rho ∧ peerJudgment s ref p rho = j := by
  simp [peerJudgments]

theorem peerJudgments_snoc (s : State) (ref : Int) (ps : List Station) (p : Station) :
    peerJudgments s ref (ps ++ [p]) = peerJudgments s ref ps ++ ((reviewRate s p).map (peerJudgment s ref p)).toList := by
  rw [peerJudgments, List.filterMap_append]
  cases hrate : reviewRate s p <;> simp [peerJudgments, hrate]

/-- `u` is `s` but for these parts of DMON and the flag of the list. -/
def ListMoved (s u : State) : Prop :=
  ∃ drift verdict d warnings changed, u =
    { s with
      dmon := { s.dmon with drift := drift, ownVerdict := verdict, ownD := d, warnings := warnings }
      svc := { s.svc with warningsChanged := changed } }

theorem listMoved_warnVerdict (k : WarningKind) (subj : Subject) (v v' : Verdict) (d : Int) (s : State) :
    ListMoved s (s.warnVerdict k subj v v' d) := by
  have hraise (w : Warning) : ListMoved s (s.raiseWarning w) := by
    unfold State.raiseWarning
    split <;> exact ⟨_, _, _, _, _, rfl⟩
  have hremove : ListMoved s (s.removeWarning k subj) := by
    unfold State.removeWarning
    split <;> exact ⟨_, _, _, _, _, rfl⟩
  unfold State.warnVerdict
  split
  · exact ⟨_, _, _, _, _, rfl⟩
  split
  · exact hraise _
  split
  · exact hremove
  · exact ⟨_, _, _, _, _, rfl⟩

theorem ListMoved.trans {s t u : State} (hst : ListMoved s t) (htu : ListMoved t u) : ListMoved s u := by
  obtain ⟨_, _, _, _, _, rfl⟩ := hst
  obtain ⟨_, _, _, _, _, rfl⟩ := htu
  exact ⟨_, _, _, _, _, rfl⟩

/-- `u` is `s` after these peers have been judged. -/
structure PeersJudged (s : State) (ref : Int) (ps : List Station) (u : State) : Prop where
  moved : ListMoved s u
  own : u.dmon.ownVerdict = s.dmon.ownVerdict
  drift : ∀ q : Station, u.dmon.drift[q] = if q ∈ ps then judgedRecord s ref q else s.dmon.drift[q]
  list : Judged s (peerJudgments s ref ps) u

theorem peersJudged_nil {s : State} (h : WarningsStanding s) (ref : Int) : PeersJudged s ref [] s where
  moved := ⟨_, _, _, _, _, rfl⟩
  own := rfl
  drift _ := rfl
  list := judged_nil h

theorem unjudged_peer {s : State} {ref : Int} {ps : List Station} {p : Station} (hp : p ∉ ps) (rho : Int) :
    Unjudged (peerJudgments s ref ps) (peerJudgment s ref p rho) := by
  intro i hi hsame
  obtain ⟨q, hq, rho', -, rfl⟩ := (mem_peerJudgments _ _ _ _).1 hi
  have hqp : q = p := Subject.peer.inj hsame.2
  exact hp (hqp ▸ hq)

theorem PeersJudged.snoc {s u : State} {ref : Int} {ps : List Station} (h : PeersJudged s ref ps u) {p : Station} (hp : p ∉ ps) :
    PeersJudged s ref (ps ++ [p]) (u.judgePeer ref (reviewRate s p) p) := by
  obtain ⟨hmoved, hown, hdrift, hlist⟩ := h
  have hrecord : u.dmon.drift[p] = s.dmon.drift[p] := (hdrift p).trans (if_neg hp)
  cases hrate : reviewRate s p with
  | none =>
    refine ⟨hmoved, hown, fun q => ?_, ?_⟩
    · change u.dmon.drift[q] = _
      rw [hdrift q]
      by_cases hq : q = p
      · subst hq
        simp [hp, judgedRecord, hrate]
      · simp [hq]
    · rw [peerJudgments_snoc, hrate]
      rw [Option.map_none, Option.toList_none, List.append_nil]
      exact hlist
  | some rho =>
    have himage : u.svc.image = s.svc.image ∧ u.ptab = s.ptab ∧ clockNs u = clockNs s := by
      obtain ⟨_, _, _, _, _, rfl⟩ := hmoved
      exact ⟨rfl, rfl, rfl⟩
    obtain ⟨himage, hptab, hclock⟩ := himage
    have hjudge : u.judgePeer ref (some rho) p = (peerJudgment s ref p rho).heard
        (u.setDrift p { s.dmon.drift[p] with verdict := (peerJudgment s ref p rho).becomes, d := rho - ref }) := by
      simp only [State.judgePeer, hrecord, himage, hptab]
      rfl
    have hset (r : DriftRecord) : ListMoved u (u.setDrift p r) := ⟨_, _, _, _, _, rfl⟩
    rw [hjudge]
    refine ⟨(hmoved.trans (hset _)).trans (listMoved_warnVerdict _ _ _ _ _ _), ?_, fun q => ?_, ?_⟩
    · rw [Judgment.heard, DriftLaws.warnVerdict_dmon]
      exact hown
    · rw [Judgment.heard, ArrivalLaws.warnVerdict_drift, State.setDrift_dmon]
      by_cases hq : p = q
      · subst hq
        simp [judgedRecord, hrate]
      · have hval : p.val ≠ q.val := Fin.val_ne_of_ne hq
        have hmem : q ∈ ps ++ [p] ↔ q ∈ ps := by simp [Ne.symm hq]
        simp only [Fin.getElem_fin, Vector.getElem_set_ne _ _ hval, hmem]
        exact hdrift q
    · rw [peerJudgments_snoc, hrate]
      exact Judged.snoc (u := u.setDrift p _) (hlist.congr rfl rfl) (unjudged_peer hp rho) hclock

theorem foldl_peersJudged {s : State} {ref : Int} (ps : List Station) :
    ∀ {done : List Station} {u : State}, PeersJudged s ref done u → (done ++ ps).Nodup →
      PeersJudged s ref (done ++ ps) (ps.foldl (fun t p => t.judgePeer ref (reviewRate s p) p) u) := by
  induction ps with
  | nil =>
    intro done u h _
    rwa [List.append_nil]
  | cons p ps ih =>
    intro done u h hnodup
    rw [List.append_cons] at hnodup ⊢
    have hp : p ∉ done := fun hmem => by
      have hsnoc := (List.nodup_append.1 (List.nodup_append.1 hnodup).1).2.2
      exact hsnoc p hmem p (List.mem_singleton_self p) rfl
    exact ih (h.snoc hp) hnodup

/-- The judgments of a whole review: the peers in ascending order, the own clock last. -/
def allJudgments (s : State) (ref : Int) : List Judgment := peerJudgments s ref stations ++ [ownJudgment s ref]

theorem mem_allJudgments (s : State) (ref : Int) (j : Judgment) :
    j ∈ allJudgments s ref ↔ (∃ p rho, reviewRate s p = some rho ∧ j = peerJudgment s ref p rho) ∨ j = ownJudgment s ref := by
  simp only [allJudgments, List.mem_append, List.mem_singleton, mem_peerJudgments, mem_stations, true_and, eq_comm]

/-- One judgment for each kind and station. -/
theorem judgment_unique {s : State} {ref : Int} {i j : Judgment} (hi : i ∈ allJudgments s ref) (hj : j ∈ allJudgments s ref)
    (hsubject : i.subject = j.subject) : i = j := by
  rcases (mem_allJudgments _ _ _).1 hi with ⟨p, rho, hp, rfl⟩ | rfl <;>
    rcases (mem_allJudgments _ _ _).1 hj with ⟨q, rho', hq, rfl⟩ | rfl
  · obtain rfl : p = q := Subject.peer.inj hsubject
    obtain rfl : rho = rho' := Option.some.inj (hp.symm.trans hq)
    rfl
  · cases hsubject
  · cases hsubject
  · rfl

/-- All the judgments made: what DMON holds then. -/
theorem judgeAll_judged {s : State} (h : WarningsStanding s) (ref : Int) :
    ListMoved s (judgeAll ref s) ∧ (judgeAll ref s).dmon.ownVerdict = (ownJudgment s ref).becomes
      ∧ (judgeAll ref s).dmon.ownD = -ref ∧ (∀ q : Station, (judgeAll ref s).dmon.drift[q] = judgedRecord s ref q)
      ∧ Judged s (allJudgments s ref) (judgeAll ref s) := by
  obtain ⟨hmoved, hown, hdrift, hlist⟩ := foldl_peersJudged stations (peersJudged_nil h ref) (List.nodup_finRange 32)
  unfold judgeAll
  rw [List.nil_append] at hdrift hlist
  generalize stations.foldl (fun t p => t.judgePeer ref (reviewRate s p) p) s = u at hmoved hown hdrift hlist ⊢
  have himage : u.svc.image = s.svc.image ∧ clockNs u = clockNs s := by
    obtain ⟨_, _, _, _, _, rfl⟩ := hmoved
    exact ⟨rfl, rfl⟩
  obtain ⟨himage, hclock⟩ := himage
  have hjudge : u.judgeOwn ref = (ownJudgment s ref).heard
      (u.onDmon fun m => { m with ownVerdict := (ownJudgment s ref).becomes, ownD := -ref }) := by
    simp only [State.judgeOwn, himage, hown]
    rfl
  have hset : ListMoved u (u.onDmon fun m => { m with ownVerdict := (ownJudgment s ref).becomes, ownD := -ref }) :=
    ⟨_, _, _, _, _, rfl⟩
  have hfresh : Unjudged (peerJudgments s ref stations) (ownJudgment s ref) := by
    intro i hi hsame
    obtain ⟨q, -, rho, -, rfl⟩ := (mem_peerJudgments _ _ _ _).1 hi
    exact Subject.noConfusion hsame.2
  have hpeers : Judged s (peerJudgments s ref stations)
      (u.onDmon fun m => { m with ownVerdict := (ownJudgment s ref).becomes, ownD := -ref }) :=
    hlist.congr rfl rfl
  rw [hjudge]
  refine ⟨(hmoved.trans hset).trans (listMoved_warnVerdict _ _ _ _ _ _), ?_, ?_, fun q => ?_, hpeers.snoc hfresh hclock⟩
  · rw [Judgment.heard, DriftLaws.warnVerdict_dmon, State.onDmon_dmon]
  · rw [Judgment.heard, DriftLaws.warnVerdict_dmon, State.onDmon_dmon]
  · rw [Judgment.heard, DriftLaws.warnVerdict_dmon, State.onDmon_dmon]
    exact (hdrift q).trans (if_pos (mem_stations q))

/-! ## The warnings after a review -/

section
variable {s : State} {ref : Int}

theorem raised_mem {j : Judgment} (hj : j ∈ allJudgments s ref) (hr : j.raises s.dmon.warnings = true) :
    j.warning (clockNs s) ∈ warningsAfter s (allJudgments s ref) :=
  (mem_spliced _ _ _ _).2 (.inr ((mem_addedBy _ _ _ _).2 ⟨j, hj, hr, rfl⟩))

theorem removed_not_warned {j : Judgment} (hj : j ∈ allJudgments s ref) (hbecomes : j.becomes = .steady) (hwas : j.was ≠ .steady) :
    ¬Warned (warningsAfter s (allJudgments s ref)) j.kind j.subject := by
  rintro ⟨w, hw, hkind, hsubject⟩
  rcases (mem_spliced _ _ _ _).1 hw with hw | hw
  · have hstays := ((mem_keptBy _ _ _).1 hw).2 j hj
    rw [(removes_iff j w).2 ⟨hbecomes, hwas, hkind, hsubject⟩] at hstays
    exact Bool.noConfusion hstays
  · obtain ⟨i, hi, hr, rfl⟩ := (mem_addedBy _ _ _ _).1 hw
    obtain rfl : i = j := judgment_unique hi hj hsubject
    have hdrifting := ((raises_iff _ _).1 hr).1
    rw [hbecomes] at hdrifting
    exact Verdict.noConfusion hdrifting

theorem lost_of_warningsAfter {js : List Judgment} {w : Warning} (hw : w ∈ s.dmon.warnings) (hlost : w ∉ warningsAfter s js) :
    ∃ j ∈ js, j.removes w = true := by
  by_contra hnone
  refine hlost ((mem_spliced _ _ _ _).2 (.inl ((mem_keptBy _ _ _).2 ⟨hw, fun j hj => ?_⟩)))
  rw [← Bool.not_eq_true]
  exact fun hr => hnone ⟨j, hj, hr⟩

theorem gained_of_warningsAfter {js : List Judgment} {w : Warning} (hw : w ∈ warningsAfter s js) (hnew : w ∉ s.dmon.warnings) :
    ∃ j ∈ js, j.raises s.dmon.warnings = true ∧ j.warning (clockNs s) = w := by
  rcases (mem_spliced _ _ _ _).1 hw with hw | hw
  · exact (hnew ((mem_keptBy _ _ _).1 hw).1).elim
  · exact (mem_addedBy _ _ _ _).1 hw

theorem added_new {js : List Judgment} {w : Warning} (hw : w ∈ addedBy (clockNs s) js s.dmon.warnings) : w ∉ s.dmon.warnings := by
  obtain ⟨j, -, hr, rfl⟩ := (mem_addedBy _ _ _ _).1 hw
  exact fun hold => ((raises_iff _ _).1 hr).2.2 ⟨_, hold, rfl, rfl⟩

theorem keptBy_eq_filter (js : List Judgment) :
    keptBy js s.dmon.warnings = s.dmon.warnings.filter (· ∈ warningsAfter s js) := by
  refine List.filter_congr fun w hw => ?_
  have hmem : w ∈ warningsAfter s js ↔ w ∈ keptBy js s.dmon.warnings :=
    (mem_spliced _ _ _ _).trans (or_iff_left fun hadded => added_new hadded hw)
  rw [Bool.eq_iff_iff, decide_eq_true_eq, hmem, keptBy, List.mem_filter]
  exact (and_iff_right hw).symm

theorem added_pairwise : (addedBy (clockNs s) (allJudgments s ref) s.dmon.warnings).Pairwise RaisedEarlier := by
  have hpeers : (peerJudgments s ref stations).Pairwise fun i j =>
      RaisedEarlier (i.warning (clockNs s)) (j.warning (clockNs s)) := by
    refine List.Pairwise.filterMap _ (R := (· < ·)) (fun p q hlt i hi j hj => ?_) stations_pairwise
    obtain ⟨rho, -, rfl⟩ := Option.map_eq_some_iff.1 hi
    obtain ⟨rho', -, rfl⟩ := Option.map_eq_some_iff.1 hj
    exact hlt
  refine List.pairwise_map.2 (List.Pairwise.filter _ (List.pairwise_append.2 ⟨hpeers, List.pairwise_singleton _ _, ?_⟩))
  intro i hi j hj
  obtain ⟨p, -, rho, -, rfl⟩ := (mem_peerJudgments _ _ _ _).1 hi
  obtain rfl := List.mem_singleton.1 hj
  exact trivial

end

/-! ## The review -/

theorem reviewDue_iff (s : State) : reviewDue s = true ↔ ∃ t, s.dmon.reviewTimer = some t ∧ t ≤ s.osc.tick := by
  unfold reviewDue
  cases s.dmon.reviewTimer <;> simp

/-- A conclusive review, its parts named. -/
theorem conclusiveReview_eq {s : State} (h : WarningsStanding s) {ref : Int} (href : ref = referenceRate (reviewRates s)) :
    ∃ t, conclusiveReview s = t
      ∧ t =
        { s with
          dmon :=
            { drift := t.dmon.drift
              ownVerdict := (ownJudgment s ref).becomes
              ownD := -ref
              stepTick := s.dmon.stepTick
              reviewTimer := some (s.osc.tick + reviewTicks s)
              review :=
                { outcome := .conclusive, tick := some s.osc.tick, k := some (reviewRates s).length, ref := some ref
                  ownD := some (-ref), trim := some (trimPosted s.eclk.trim ref) }
              warnings := t.dmon.warnings }
          svc := { s.svc with warningsChanged := t.svc.warningsChanged }
          net := { s.net with postDmon := s.net.postDmon ++ [.trim (trimPosted s.eclk.trim ref)] } }
      ∧ (∀ q : Station, t.dmon.drift[q] = { judgedRecord s ref q with fresh := false })
      ∧ Judged s (allJudgments s ref) t := by
  obtain ⟨hmoved, hverdict, hd, hdrift, hlist⟩ := judgeAll_judged h ref
  subst href
  dsimp only [conclusiveReview]
  generalize referenceRate (reviewRates s) = ref at *
  generalize judgeAll ref s = u at hmoved hverdict hd hdrift hlist ⊢
  refine ⟨_, rfl, ?_, fun q => ?_, hlist.congr ?_ ?_⟩
  · obtain ⟨_, _, _, _, _, rfl⟩ := hmoved
    simp only at hverdict hd
    rw [hverdict, hd]
    simp only [State.post, State.onDmon, State.onNet, clearFresh]
  · rw [← hdrift q]
    simp only [State.post_dmon, State.onDmon_dmon, clearFresh, Fin.getElem_fin, mapAll_getElem]
  · simp only [State.post_dmon, State.onDmon_dmon, clearFresh]
  · simp only [State.post_svc, State.onDmon_svc]

theorem not_warned_iff (ws : List Warning) (k : WarningKind) (subj : Subject) :
    ¬Warned ws k subj ↔ ∀ w ∈ ws, w.kind ≠ k ∨ w.subject ≠ subj := by
  simp only [Warned, not_exists, not_and]
  exact forall_congr' fun w => imp_congr_right fun _ => imp_iff_not_or

/-- A warning of the own clock's drift is the own station's. -/
theorem self_of_kind {s : State} (h : WarningsStanding s) {w : Warning} (hw : w ∈ s.dmon.warnings) (hkind : w.kind = .selfDrifting) :
    w.subject = .own := by
  by_contra hne
  have hpeer := ((h.2.2 w hw).1).2 hne
  rw [hkind] at hpeer
  exact WarningKind.noConfusion hpeer

theorem not_warned_self {s : State} (h : WarningsStanding s) {ref : Int}
    (hnot : ¬Warned (warningsAfter s (allJudgments s ref)) .selfDrifting .own) :
    ∀ w ∈ warningsAfter s (allJudgments s ref), w.kind ≠ .selfDrifting := by
  intro w hw hkind
  refine hnot ⟨w, hw, hkind, ?_⟩
  rcases (mem_spliced _ _ _ _).1 hw with hw | hw
  · exact self_of_kind h ((mem_keptBy _ _ _).1 hw).1 hkind
  · obtain ⟨j, hj, -, rfl⟩ := (mem_addedBy _ _ _ _).1 hw
    rcases (mem_allJudgments _ _ _).1 hj with ⟨p, rho, -, rfl⟩ | rfl
    · exact WarningKind.noConfusion hkind
    · rfl

section
variable {s : State} {ref : Int} {t : State} (hlist : Judged s (allJudgments s ref) t)
  (hdrift : ∀ q : Station, t.dmon.drift[q] = { judgedRecord s ref q with fresh := false })
  (hverdict : t.dmon.ownVerdict = (ownJudgment s ref).becomes)

include hdrift in
theorem drift_of_no_rate {p : Station} (hrate : reviewRate s p = none) :
    t.dmon.drift[p] = { s.dmon.drift[p] with fresh := false } := by
  rw [hdrift p, judgedRecord, hrate]

include hdrift in
theorem drift_of_rate {p : Station} {rho : Int} (hrate : reviewRate s p = some rho) :
    t.dmon.drift[p] = { s.dmon.drift[p] with
      fresh := false, verdict := (peerJudgment s ref p rho).becomes, d := rho - ref } := by
  rw [hdrift p, judgedRecord, hrate]

include hlist in
/-- A verdict that enters DRIFTING puts its warning in, if none is there. -/
theorem enters_drifting {j : Judgment} (hj : j ∈ allJudgments s ref) (hbecomes : j.becomes = .drifting) (hwas : j.was ≠ .drifting)
    (habsent : ¬Warned s.dmon.warnings j.kind j.subject) : j.warning (clockNs s) ∈ t.dmon.warnings := by
  rw [hlist.warnings]
  exact raised_mem hj ((raises_iff _ _).2 ⟨hbecomes, hwas, habsent⟩)

include hlist in
/-- A verdict that enters STEADY leaves no warning of it. -/
theorem enters_steady {j : Judgment} (hj : j ∈ allJudgments s ref) (hbecomes : j.becomes = .steady) (hwas : j.was ≠ .steady) :
    ¬Warned t.dmon.warnings j.kind j.subject := by
  rw [hlist.warnings]
  exact removed_not_warned hj hbecomes hwas

include hlist hdrift hverdict in
theorem lost_reason {w : Warning} (hw : w ∈ s.dmon.warnings) (hlost : w ∉ t.dmon.warnings) :
    w.kind = .selfDrifting ∧ t.dmon.ownVerdict = .steady ∧ s.dmon.ownVerdict ≠ .steady
      ∨ ∃ p : Station, w.kind = .peerDrifting ∧ w.subject = .peer p ∧ t.dmon.drift[p].verdict = .steady
        ∧ s.dmon.drift[p].verdict ≠ .steady := by
  rw [hlist.warnings] at hlost
  obtain ⟨j, hj, hr⟩ := lost_of_warningsAfter hw hlost
  obtain ⟨hbecomes, hwas, hkind, hsubject⟩ := (removes_iff _ _).1 hr
  rcases (mem_allJudgments _ _ _).1 hj with ⟨p, rho, hrate, rfl⟩ | rfl
  · refine .inr ⟨p, hkind, hsubject, ?_, hwas⟩
    rw [drift_of_rate hdrift hrate]
    exact hbecomes
  · exact .inl ⟨hkind, hverdict.trans hbecomes, hwas⟩

include hlist hdrift hverdict in
theorem gained_reason {w : Warning} (hw : w ∈ t.dmon.warnings) (hnew : w ∉ s.dmon.warnings) :
    w = { kind := .selfDrifting, subject := .own, time := clockNs s, value := -ref } ∧ t.dmon.ownVerdict = .drifting
        ∧ s.dmon.ownVerdict ≠ .drifting
      ∨ ∃ p : Station, w = { kind := .peerDrifting, subject := .peer p, time := clockNs s, value := t.dmon.drift[p].d }
        ∧ t.dmon.drift[p].verdict = .drifting ∧ s.dmon.drift[p].verdict ≠ .drifting := by
  rw [hlist.warnings] at hw
  obtain ⟨j, hj, hr, rfl⟩ := gained_of_warningsAfter hw hnew
  obtain ⟨hbecomes, hwas, -⟩ := (raises_iff _ _).1 hr
  rcases (mem_allJudgments _ _ _).1 hj with ⟨p, rho, hrate, rfl⟩ | rfl
  · refine .inr ⟨p, ?_, ?_, hwas⟩
    · rw [drift_of_rate hdrift hrate]
      rfl
    · rw [drift_of_rate hdrift hrate]
      exact hbecomes
  · exact .inl ⟨rfl, hverdict.trans hbecomes, hwas⟩

end

/-- Settles O44: the list after a review is what no judgment takes out, with what the judgments put in spliced into it. -/
theorem reviewHeld : Obligations.ReviewHeld := by
  refine ⟨fun s hearly => ?_, ?_⟩
  · have hnot : ¬reviewDue s = true := by
      rw [reviewDue_iff]
      rintro ⟨t, ht, hle⟩
      exact Nat.not_lt.2 hle (hearly t ht)
    exact if_neg hnot
  intro timer s h htimer hdue rate rates k next now
  have hrate : rate = reviewRate s := funext fun p => (reviewRate_eq s p).symm
  have hrates : rates = reviewRates s := by
    change 0 :: (List.finRange 32).filterMap rate = _
    rw [hrate]
    rfl
  have hnext : next = some (s.osc.tick + reviewTicks s) := by rw [reviewTicks_eq]
  have hexec : exec .review s =
      if k < 3 then .next (inconclusiveReview s) else .next (conclusiveReview s) := by
    change (if reviewDue s = true then _ else _) = _
    rw [if_pos ((reviewDue_iff s).2 ⟨timer, htimer, hdue⟩), ← hrates]
  refine ⟨fun hfew => ?_, fun hmany => ?_⟩
  · rw [hexec, if_pos hfew, hnext, inconclusiveReview, ← hrates]
    rfl
  generalize href : referenceRate (reviewRates s) = ref
  obtain ⟨t, ht, hshape, hdrift, hlist⟩ := conclusiveReview_eq h href.symm
  have hverdict : t.dmon.ownVerdict = (ownJudgment s ref).becomes := by rw [hshape]
  have hown : ownJudgment s ref ∈ allJudgments s ref := (mem_allJudgments _ _ _).2 (.inr rfl)
  refine ⟨t, ref, sortRates rates, ?_, sortRates_perm _, sortRates_pairwise _, ?_, ?_, ?_, ?_, ?_, ?_, ?_, ?_, ?_, ?_⟩
  · rw [hexec, if_neg (Nat.not_lt.2 hmany), ht]
  · rw [← href, ← hrates]
    exact referenceRate_at (List.cons_ne_nil _ _)
  · rw [← trimPosted_eq, hnext, show k = (reviewRates s).length from congrArg List.length hrates]
    exact hshape
  · intro p r
    rw [hrate]
    refine ⟨drift_of_no_rate hdrift, fun rho hp => ?_⟩
    have hpeer : peerJudgment s ref p rho ∈ allJudgments s ref := (mem_allJudgments _ _ _).2 (.inl ⟨p, rho, hp, rfl⟩)
    refine ⟨drift_of_rate hdrift hp, fun hbecomes hwas habsent => ?_, fun hbecomes hwas => ?_⟩
    · exact enters_drifting hlist hpeer hbecomes hwas ((not_warned_iff _ _ _).2 habsent)
    · exact (not_warned_iff _ _ _).1 (enters_steady hlist hpeer hbecomes hwas)
  · intro hbecomes hwas habsent
    exact enters_drifting hlist hown (hverdict.symm.trans hbecomes) hwas fun ⟨w, hw, hkind, _⟩ => habsent w hw hkind
  · intro hbecomes hwas
    have hnot := enters_steady hlist hown (hverdict.symm.trans hbecomes) hwas
    rw [hlist.warnings] at hnot ⊢
    exact not_warned_self h hnot
  · exact fun w hw hlost => lost_reason hlist hdrift hverdict hw hlost
  · exact fun w hw hnew => gained_reason hlist hdrift hverdict hw hnew
  · refine ⟨addedBy now (allJudgments s ref) s.dmon.warnings, ?_⟩
    intro kept
    have hkept : kept = keptBy (allJudgments s ref) s.dmon.warnings := by
      rw [keptBy_eq_filter, ← hlist.warnings]
    rw [hkept]
    exact ⟨hlist.warnings, fun w hw => added_new hw, added_pairwise⟩
  · exact hlist.changed
  · exact hlist.unchanged

end Sys2Proof.ReviewHeld
end

section
/-! AGU as its statements give it: LISTEN, the intervals of a close, its outcome, correction and notices. -/

namespace Sys2Proof.AgreementMoves

open Sys2Proof.Machine Sys2Proof.Frames Sys2Proof.AgreementLaws

/-! ## Completion notices (R34, R65) -/

/-- A completion notice of this launch tick, taken. -/
def afterCompletion (launch : Tick) (rest : List Tick) (s : State) : State :=
  { s with
    net := { s.net with completion := rest }
    agu := { s.agu with stepped := s.agu.stepped && steppedSince launch s.agu.stepTick } }

/-- A step notice taken by AGU. -/
def afterStepAtAgu (c : Int) (cs : List Int) (s : State) : State :=
  { s with
    net := { s.net with stepAgu := cs, rebase := s.net.rebase ++ [c] }
    agu := { s.agu with stepped := true, stepTick := some s.osc.tick } }

theorem exec_completionNotice {launch : Tick} {rest : List Tick} {s : State} (h : s.net.completion = launch :: rest) :
    exec .completionNotice s = .next (afterCompletion launch rest s) := by
  change execCompletionNotice s = _
  simp only [execCompletionNotice, h]
  rfl

theorem exec_stepNoticeAtAgu {c : Int} {cs : List Int} {s : State} (h : s.net.stepAgu = c :: cs) :
    exec .stepNoticeAtAgu s = .next (afterStepAtAgu c cs s) := by
  change execStepNoticeAtAgu s = _
  simp only [execStepNoticeAtAgu, h]
  rfl

theorem steppedSince_later {launch t : Tick} (h : launch ≤ t) : steppedSince launch (some t) = true := decide_eq_true h

/-- Settles O27. -/
theorem completionNoticeTaken : Obligations.CompletionNoticeTaken := by
  intro launch rest s hfront
  refine ⟨fun hbefore => ?_, fun t hstep hsince => ?_, fun c cs hstep hsince => ?_⟩
  · have hnot : steppedSince launch s.agu.stepTick = false := by
      rcases hbefore with h | ⟨t, h, hlt⟩
      · rw [h]
        rfl
      · rw [h]
        exact decide_eq_false (Nat.not_le.2 hlt)
    rw [exec_completionNotice hfront, afterCompletion, hnot, Bool.and_false]
  · rw [exec_completionNotice hfront, afterCompletion, hstep, steppedSince_later hsince, Bool.and_true]
  · have hfirst : exec .stepNoticeAtAgu (afterCompletion launch rest s) =
        .next (afterStepAtAgu c cs (afterCompletion launch rest s)) := exec_stepNoticeAtAgu hstep
    have hsecond : exec .completionNotice (afterStepAtAgu c cs s) =
        .next (afterCompletion launch rest (afterStepAtAgu c cs s)) := exec_completionNotice hfront
    refine ⟨_, _, _, _, exec_completionNotice hfront, hfirst, exec_stepNoticeAtAgu hstep, hsecond, ?_, rfl⟩
    simp only [afterStepAtAgu, afterCompletion, steppedSince_later hsince, Bool.and_true]

/-! ## LISTEN (R42, R63, R92, R164) -/

theorem timerReached_iff (timer : Option Tick) (s : State) : timerReached timer s = true ↔ ∃ t, timer = some t ∧ t ≤ s.osc.tick := by
  cases timer <;> simp [timerReached]

theorem covers_iff (w : ProfileWindow) (p : Station) : covers w p = true ↔ w.first ≤ p.val ∧ p.val ≤ w.last := by
  simp [covers]

theorem profileFor_default {img : Image} {p : Station} (h : ∀ w : Fin 4, ¬covers img.windows[w] p = true) :
    profileFor img p = .dflt := by
  have hnone : (List.finRange 4).find? (fun w => covers img.windows[w] p) = none :=
    List.find?_eq_none.2 fun w _ => h w
  simp only [profileFor, hnone]

/-- The first window that covers a station. -/
theorem profileFor_window {img : Image} {p : Station} {w : Fin 4} (h : covers img.windows[w] p = true)
    (hfirst : ∀ v < w, ¬covers img.windows[v] p = true) : profileFor img p = .window w := by
  have hfound : (List.finRange 4).find? (fun w => covers img.windows[w] p) = some w := by
    refine List.find?_eq_some_iff_getElem.2 ⟨h, w.val, by simp, by simp, fun j hj => ?_⟩
    have hv := hfirst ⟨j, hj.trans w.isLt⟩ hj
    simpa using hv
  simp only [profileFor, hfound]

/-- A request that is taken, and what it makes of the state it is taken in. -/
theorem takeRequest_answered {s t : State} {code : Byte} {act : State → State × Status × List Byte} {status : Status}
    {body : List Byte} (h : s.svc.request = none) (hact : act (s.beginRequest code) = (t.beginRequest code, status, body))
    (htick : t.osc.tick = s.osc.tick) : takeRequest code act s = answered code status body t := by
  rw [takeRequest_free act h, hact, tickBytes, ← htick]
  rfl

/-- Settles O41. -/
theorem listenBeginsAndEnds : Obligations.ListenBeginsAndEnds := by
  intro s
  refine ⟨fun hfree hconfig => ?_, fun hfree hother => ?_, fun hnot => ?_, fun t hlisten ht hle => ?_⟩
  · refine ⟨startAll s, ?_, ?_, fun p => ⟨profileFor s.svc.image p, ?_, fun hnone => ?_, fun w hlo hhi hfirst => ?_⟩⟩
    · have hact : takeStart (s.beginRequest 0x02) = ((startAll s).beginRequest 0x02, .ok, []) := if_pos hconfig
      exact congrArg _ (takeRequest_answered hfree hact rfl)
    · rw [← ReviewHeld.reviewTicks_eq, ← Period.ticks_eq]
      rfl
    · simp [startAll]
    · exact profileFor_default fun w => mt (covers_iff _ p).1 (hnone w)
    · exact profileFor_window ((covers_iff _ p).2 ⟨hlo, hhi⟩) fun v hv => mt (covers_iff _ p).1 (hfirst v hv)
  · exact congrArg _ (takeRequest_unchanged hfree (if_neg hother))
  · refine if_neg fun hended => ?_
    simp only [Bool.and_eq_true, decide_eq_true_eq, timerReached_iff] at hended
    obtain ⟨hlisten, t, ht, hle⟩ := hended
    rcases hnot with h | h
    · exact h hlisten
    · exact Nat.not_lt.2 hle (h t ht)
  · have hended : (s.agu.sync = .listen && timerReached s.agu.endListen s) = true := by
      simp only [Bool.and_eq_true, decide_eq_true_eq, timerReached_iff]
      exact ⟨hlisten, t, ht, hle⟩
    change (if (s.agu.sync = .listen && timerReached s.agu.endListen s) = true then _ else _) = _
    rw [if_pos hended, ← Period.ticks_eq]
    rfl

/-! ## The intervals of a close (R71 to R73) -/

/-- What one station brings into a close. -/
def broughtBy (s : State) (p : Station) : Option Interval := if p = s.svc.station then ownInterval s else peerInterval s p

theorem takenIntervals_eq (s : State) : takenIntervals s = stations.filterMap (broughtBy s) := rfl

theorem ownInterval_who {s : State} {i : Interval} (h : ownInterval s = some i) : i.who = s.svc.station := by
  unfold ownInterval at h
  split at h
  · cases h
    rfl
  · split at h
    · cases h
    · split at h <;> cases h
      rfl

theorem broughtBy_who {s : State} {p : Station} {i : Interval} (h : broughtBy s p = some i) : i.who = p := by
  unfold broughtBy at h
  split at h
  next hown => exact (ownInterval_who h).trans hown.symm
  next =>
    obtain ⟨o, -, -, -, -, rfl⟩ := peerInterval_eq_some.1 h
    rfl

theorem mem_takenIntervals (s : State) (i : Interval) : i ∈ takenIntervals s ↔ broughtBy s i.who = some i := by
  rw [takenIntervals_eq, List.mem_filterMap]
  constructor
  · rintro ⟨p, -, hp⟩
    rwa [broughtBy_who hp]
  · exact fun h => ⟨i.who, mem_stations _, h⟩

theorem takenIntervals_pairwise (s : State) : (takenIntervals s).Pairwise fun i j => i.who < j.who := by
  refine List.Pairwise.filterMap _ (R := (· < ·)) (fun p q hlt i hi j hj => ?_) Reviews.stations_pairwise
  rwa [broughtBy_who hi, broughtBy_who hj]

theorem countP_takenIntervals (s : State) : (takenIntervals s).countP (fun i => i.who ≠ s.svc.station) = eligiblePeers s := by
  rw [takenIntervals_eq, List.countP_filterMap, eligiblePeers, ← List.countP_eq_length_filter]
  refine List.countP_congr fun p _ => ?_
  cases hp : broughtBy s p with
  | none =>
    by_cases hown : p = s.svc.station
    · simp [hown]
    · rw [broughtBy, if_neg hown] at hp
      simp [hp]
  | some i =>
    have hwho := broughtBy_who hp
    by_cases hown : p = s.svc.station
    · simp [hown, hwho]
    · rw [broughtBy, if_neg hown] at hp
      simp [hown, hwho, hp]

section
variable {s : State}

theorem ownInterval_anchored {alpha : Int} (hq : s.anch.state = .qualified) (ha : s.anch.alpha = some alpha) :
    ownInterval s = some { who := s.svc.station, lo := alpha - (s.anch.uRef + 80), hi := alpha + (s.anch.uRef + 80) } := by
  simp [ownInterval, anchoredFlag, hq, ha]

theorem ownInterval_bounded (hq : s.anch.state ≠ .qualified) (hhumble : s.agu.humble = false) (hu : ownU s < 4294967295) :
    ownInterval s = some { who := s.svc.station, lo := -(ownU s : Int), hi := ownU s } := by
  simp [ownInterval, anchoredFlag, hq, hhumble, Config.unbounded, hu]

theorem ownInterval_none (hq : s.anch.state ≠ .qualified) (hnone : s.agu.humble = true ∨ ownU s = 4294967295) :
    ownInterval s = none := by
  rcases hnone with h | h
  · simp [ownInterval, anchoredFlag, hq, h]
  · simp [ownInterval, anchoredFlag, hq, h, Config.unbounded]

/-- An aged bound below UNBOUNDED is the sum it is formed from. -/
theorem agedBound_eq {tick : Tick} {aging : Nat} {o : Observation} {eps : Nat} (hlt : eps < 4294967295) :
    agedBound tick aging o = eps ↔ eps = o.eps0 + ((tick - o.arrivalTick) * 40 * aging + 999999) / 1000000 := by
  have hbound : agedBound tick aging o = min 4294967295 (o.eps0 + ((tick - o.arrivalTick) * 40 * aging + 999999) / 1000000) := rfl
  rw [hbound]
  omega

end

/-- Settles O37. -/
theorem intervalsTaken : Obligations.IntervalsTaken := by
  intro s own
  refine ⟨takenIntervals_pairwise s, countP_takenIntervals s, fun i hpeer => ?_, fun i hown => ⟨fun alpha hq ha => ?_,
    fun hq hhumble hu => ?_, fun hq hnone => ?_⟩⟩
  · rw [mem_takenIntervals, broughtBy, if_neg hpeer, peerInterval_eq_some]
    constructor
    · rintro ⟨o, hlink, hobs, hverdict, hbound, heq⟩
      exact ⟨hlink, hverdict, o, hobs, _, (agedBound_eq hbound).1 rfl, hbound, congrArg Interval.lo heq, congrArg Interval.hi heq⟩
    · rintro ⟨hlink, hverdict, o, hobs, eps, heps, hbound, hlo, hhi⟩
      have haged := (agedBound_eq hbound).2 heps
      refine ⟨o, hlink, hobs, hverdict, haged ▸ hbound, ?_⟩
      rw [haged, ← hlo, ← hhi]
  all_goals
    obtain ⟨who, lo, hi⟩ := i
    obtain rfl : who = own := hown
    rw [mem_takenIntervals, broughtBy, if_pos rfl]
  · rw [ownInterval_anchored hq ha]
    simp [own, eq_comm]
  · rw [ownInterval_bounded hq hhumble hu]
    simp [own, eq_comm]
  · rw [ownInterval_none hq hnone]
    simp

/-! ## A close and its outcome (R69, R70, R75) -/

theorem exec_roundClose_due {timer : Tick} {s : State} (htimer : s.agu.roundTimer = some timer) (hdue : timer ≤ s.osc.tick) :
    exec .roundClose s = .next (closeRound s) :=
  if_pos ((timerReached_iff _ _).2 ⟨timer, htimer, hdue⟩)

theorem exec_roundClose_early {s : State} (h : ∀ t ∈ s.agu.roundTimer, s.osc.tick < t) : exec .roundClose s = .next s := by
  refine if_neg fun hreached => ?_
  obtain ⟨t, ht, hle⟩ := (timerReached_iff _ _).1 hreached
  exact Nat.not_lt.2 hle (h t ht)

/-- What a close changes, by what it finds. -/
theorem closeRound_eq {s : State} {k : Close} (hk : closeOf s = k) :
    closeRound s =
      { s with
        agu := aguAfterClose s k
        net :=
          { s.net with
            postAgu := s.net.postAgu ++ [k.correction.posting]
            dissent := s.net.dissent ++ k.dissent.toList
            roundStart := s.net.roundStart ++ [{ tick := s.osc.tick, first := false }]
            warn :=
              s.net.warn ++ accusedNotices s
                ++ disagreementNotices k.outcome (eligiblePeers s) s.agu.run (clockNs s) } } := by
  rw [← hk]
  rfl

theorem roundOutcome_agreed (f n c : Nat) : roundOutcome f n c = .agreed ↔ Agrees f n c := by
  rw [roundOutcome_agreed_iff, Agrees]
  omega

theorem roundOutcome_without {f n c : Nat} (h : ¬Agrees f n c) :
    roundOutcome f n c = if n < 2 * f + 1 then .sparse else .split := by
  unfold roundOutcome Agrees at *
  split
  · rfl
  · exact if_neg (by omega)

/-- R75: the outcome of a close, F being as strapped. -/
theorem closeOf_outcome (s : State) :
    (closeOf s).outcome = roundOutcome (strappedF s) (takenIntervals s).length (sweep (takenIntervals s)).1 := rfl

/-- Settles O36. -/
theorem outcomeOfAClose : Obligations.OutcomeOfAClose := by
  intro timer s htimer hdue f n c
  have houtcome : (closeRound s).agu.record.outcome = roundOutcome f n c := closeOf_outcome s
  refine ⟨closeRound s, exec_roundClose_due htimer hdue, rfl, rfl, fun hsparse => ?_, fun hn hc => ?_, fun hn hc => ?_⟩
  · rw [houtcome, roundOutcome, if_pos hsparse]
  · rw [houtcome, roundOutcome_agreed]
    exact ⟨hn, hc⟩
  · rw [houtcome, roundOutcome_without (fun h => Nat.not_le.2 hc h.2), if_neg (Nat.not_lt.2 hn)]

/-! ## Corrections (R77 to R79) -/

theorem stepNeeded_iff (s : State) (c : Int) :
    stepNeeded s c = true ↔ s.agu.unset = true ∨ s.svc.image.stepThreshold < c.natAbs := by
  simp [stepNeeded]

theorem slewPhase_eq (s : State) (c : Int) : slewPhase s.svc.image c = slewPosting s c := by
  rw [slewPhase, satAbs_eq (Int.natCast_nonneg _), ReviewHeld.roundHalfAway_eq]
  rfl

theorem agreedCorrection_step {s : State} {a b : Int} (h : stepNeeded s ((a + b).tdiv 2) = true) :
    agreedCorrection s a b =
      { posting := .step ((a + b).tdiv 2), application := .step, corr := some ((a + b).tdiv 2), h := some (halfWidth a b)
        base := some (satUnc (halfWidth a b + 80)) } := if_pos h

theorem agreedCorrection_slew {s : State} {a b : Int} (h : ¬stepNeeded s ((a + b).tdiv 2) = true) :
    agreedCorrection s a b =
      { posting := .phase (slewPosting s ((a + b).tdiv 2)), application := .slew, corr := some ((a + b).tdiv 2)
        h := some (halfWidth a b), base := some (satUnc (((a + b).tdiv 2).natAbs + halfWidth a b + 80)) } := by
  rw [← slewPhase_eq]
  exact if_neg h

theorem dissentOf_eq (own : Station) (a b : Int) (is : List Interval) :
    dissentOf own (a, b) is =
      { dissenters := (is.filter fun i => i.who ≠ own ∧ (i.hi < a ∨ b < i.lo)).map Interval.who
        agreeing := (is.filter fun i => a ≤ i.hi ∧ i.lo ≤ b).map Interval.who } := by
  have hmeets (i : Interval) : meetsRegion (a, b) i = true ↔ a ≤ i.hi ∧ i.lo ≤ b := by simp [meetsRegion]
  have hout (i : Interval) : (!(meetsRegion (a, b) i) && decide (i.who ≠ own)) = decide (i.who ≠ own ∧ (i.hi < a ∨ b < i.lo)) := by
    rw [Bool.eq_iff_iff]
    simp only [Bool.and_eq_true, Bool.not_eq_true', decide_eq_true_eq, ← Bool.not_eq_true, hmeets, not_and_or, not_le]
    exact and_comm
  have hin (i : Interval) : meetsRegion (a, b) i = decide (a ≤ i.hi ∧ i.lo ≤ b) := by
    rw [Bool.eq_iff_iff, hmeets, decide_eq_true_eq]
  rw [dissentOf, List.filter_congr fun i _ => hout i, List.filter_congr fun i _ => hin i]

/-- What an AGREED close finds. -/
theorem closeOf_agreed {s : State} {c : Nat} {a b : Int} (hsweep : sweep (takenIntervals s) = (c, some (a, b)))
    (hagrees : Agrees (strappedF s) (takenIntervals s).length c) :
    closeOf s =
      { taken := takenIntervals s, c := c, region := some (a, b), outcome := .agreed, correction := agreedCorrection s a b
        dissent := some (dissentOf s.svc.station (a, b) (takenIntervals s)) } := by
  have houtcome : roundOutcome (faultTolerance s.svc.ftCode) (takenIntervals s).length c = .agreed :=
    (roundOutcome_agreed _ _ _).2 hagrees
  simp only [closeOf, hsweep, houtcome, closeCorrection]

/-- Settles O38. -/
theorem agreedClose : Obligations.AgreedClose := by
  refine ⟨fun s hearly => exec_roundClose_early hearly, ?_⟩
  intro timer c a b s htimer hdue hsweep hagrees is corr h stepping dissenters
  have hclose := closeRound_eq (closeOf_agreed hsweep hagrees)
  rw [dissentOf_eq] at hclose
  by_cases hstep : stepNeeded s corr = true
  · rw [agreedCorrection_step hstep] at hclose
    have hstepping : stepping := (stepNeeded_iff s corr).1 hstep
    refine ⟨closeRound s, .step corr, min 4294967295 (h + 80), exec_roundClose_due htimer hdue, fun _ => ⟨rfl, rfl⟩,
      fun hnot => (hnot hstepping).elim, ?_, fun _ => ?_, fun hnot => (hnot hstepping).elim⟩
    · rw [hclose, ← Period.ticks_eq]
      rfl
    · rw [hclose]
      rfl
  · rw [agreedCorrection_slew hstep] at hclose
    have hstepping : ¬stepping := mt (stepNeeded_iff s corr).2 hstep
    refine ⟨closeRound s, .phase (slewPosting s corr), min 4294967295 (corr.natAbs + h + 80), exec_roundClose_due htimer hdue,
      fun hyes => (hstepping hyes).elim, fun _ => ⟨rfl, rfl⟩, ?_, fun hyes => (hstepping hyes).elim, fun _ => ?_⟩
    · rw [hclose, ← Period.ticks_eq]
      rfl
    · rw [hclose]
      rfl

/-- The correction of a close without agreement. -/
def lonelyCorrection (s : State) : Correction := if anchoredFlag s then anchorCorrection s else noCorrection

/-- What a close without agreement finds. -/
theorem closeOf_without {s : State} (h : ¬Agrees (strappedF s) (takenIntervals s).length (sweep (takenIntervals s)).1) :
    closeOf s =
      { taken := takenIntervals s, c := (sweep (takenIntervals s)).1, region := (sweep (takenIntervals s)).2
        outcome := if (takenIntervals s).length < 2 * strappedF s + 1 then .sparse else .split
        correction := lonelyCorrection s, dissent := none } := by
  have houtcome : roundOutcome (faultTolerance s.svc.ftCode) (takenIntervals s).length (sweep (takenIntervals s)).1 =
      if (takenIntervals s).length < 2 * strappedF s + 1 then .sparse else .split := roundOutcome_without h
  simp only [closeOf, houtcome]
  split <;> rfl

theorem syncAfter_without {outcome : RoundOutcome} (h : outcome ≠ .agreed) (eligible : Nat) :
    syncAfter outcome eligible = if eligible = 0 then .lone else .holdover := by
  cases outcome
  case agreed => exact (h rfl).elim
  all_goals rfl

/-- Settles O39. -/
theorem closeWithoutAgreement : Obligations.CloseWithoutAgreement := by
  intro timer s htimer hdue is c hnot
  have hclose := closeRound_eq (closeOf_without hnot)
  have hsync : syncAfter (if (takenIntervals s).length < 2 * strappedF s + 1 then .sparse else .split) (eligiblePeers s) =
      if eligiblePeers s = 0 then .lone else .holdover := syncAfter_without (by split <;> nofun) _
  refine ⟨closeRound s, (lonelyCorrection s).posting, (lonelyCorrection s).corr, (lonelyCorrection s).base,
    (lonelyCorrection s).application, exec_roundClose_due htimer hdue, fun hq => ?_, fun alpha hq ha => ?_, ?_⟩
  · have hfree : lonelyCorrection s = noCorrection := if_neg (by simpa [anchoredFlag] using hq)
    rw [hfree]
    exact ⟨rfl, rfl, rfl, rfl⟩
  · have hfollow : lonelyCorrection s = anchorCorrection s := if_pos (by simpa [anchoredFlag] using hq)
    rw [hfollow, anchorCorrection, ha]
    refine ⟨rfl, rfl, rfl, fun hstep => if_pos ((stepNeeded_iff s alpha).2 hstep), fun hunset hle => ?_⟩
    rw [← slewPhase_eq]
    refine if_neg fun hstep => ?_
    rcases (stepNeeded_iff s alpha).1 hstep with h | h
    · exact Bool.false_ne_true (hunset.symm.trans h)
    · exact Nat.not_lt.2 hle h
  · have hh : (lonelyCorrection s).h = none := by
      unfold lonelyCorrection
      split <;> rfl
    rw [hclose, ← Period.ticks_eq]
    simp only [aguAfterClose, recordOf, hsync, hh, Option.toList_none, List.append_nil]
    cases (lonelyCorrection s).base <;> rfl

/-! ## HUMBLE and the disagreement run (R81, R82) -/

theorem admittedPeers_eq (s : State) :
    admittedPeers s = (List.finRange 32).countP fun p : Station => p ≠ s.svc.station ∧ s.ptab[p].link = .admitted := by
  rw [admittedPeers, ← List.countP_eq_length_filter]
  exact List.countP_congr fun p _ => by simp

theorem accusers_eq (s : State) :
    accusers s = (List.finRange 32).countP fun p : Station =>
      p ≠ s.svc.station ∧ s.ptab[p].link = .admitted ∧ s.ptab[p].accusesMe = true := by
  rw [accusers, ← List.countP_eq_length_filter]
  exact List.countP_congr fun p _ => by simp [and_assoc]

theorem accusedEntry_iff (s : State) : accusedEntry s = true ↔ 2 ≤ accusers s ∧ admittedPeers s < 2 * accusers s := by
  simp [accusedEntry]

theorem accusedLeave_iff (s : State) : accusedLeave s = true ↔ 4 * accusers s ≤ admittedPeers s := by
  simp [accusedLeave]

/-- Settles O40. -/
theorem humbleAndDisagreementRun : Obligations.HumbleAndDisagreementRun := by
  intro timer s htimer hdue now admitted accs enters leaves agreed
  have henters : enters ↔ accusedEntry s = true := by
    rw [accusedEntry_iff, admittedPeers_eq, accusers_eq]
  have hleaves : leaves ↔ accusedLeave s = true := by
    rw [accusedLeave_iff, admittedPeers_eq, accusers_eq]
  have hagreed : agreed ↔ (closeOf s).outcome = .agreed := by
    rw [closeOf_outcome, roundOutcome_agreed]
  have hhumble : (closeRound s).agu.humble = humbleAfter s := rfl
  have hrun : (closeRound s).agu.run = runAfter (closeOf s).outcome (eligiblePeers s) s.agu.run := rfl
  refine ⟨closeRound s, accusedNotices s, disagreementNotices (closeOf s).outcome (eligiblePeers s) s.agu.run now,
    exec_roundClose_due htimer hdue, rfl, fun hin => ?_, fun hout => ?_, fun hin hout => ?_, fun hyes => ?_, fun hno hzero => ?_,
    fun hno hsome => ?_⟩
  · rw [hhumble, accusedNotices, humbleAfter, if_pos (henters.1 hin), if_pos (henters.1 hin), anchoredFlag]
    refine ⟨rfl, ?_⟩
    by_cases hq : s.anch.state = .qualified <;> simp [hq]
  · have hnot : ¬accusedEntry s = true := by
      rw [accusedEntry_iff]
      rw [hleaves, accusedLeave_iff] at hout
      omega
    rw [hhumble, accusedNotices, humbleAfter, if_neg hnot, if_neg hnot, if_pos (hleaves.1 hout), if_pos (hleaves.1 hout)]
    exact ⟨rfl, rfl⟩
  · rw [hhumble, accusedNotices, humbleAfter, if_neg (mt henters.2 hin), if_neg (mt henters.2 hin), if_neg (mt hleaves.2 hout),
      if_neg (mt hleaves.2 hout)]
    exact ⟨rfl, rfl⟩
  · rw [hrun, hagreed.1 hyes]
    exact ⟨rfl, rfl⟩
  all_goals
    have hother : (closeOf s).outcome ≠ .agreed := mt hagreed.2 hno
    rw [hrun]
    generalize (closeOf s).outcome = outcome at hother
  · cases outcome
    case agreed => exact (hother rfl).elim
    all_goals exact ⟨if_pos hzero, if_pos hzero⟩
  · cases outcome
    case agreed => exact (hother rfl).elim
    all_goals exact ⟨if_neg hsome, if_neg hsome⟩

end Sys2Proof.AgreementMoves
end

section
/-! ANCH as its statements give it: what a pulse makes of the anchor, and the end of a window. -/

namespace Sys2Proof.AnchorMoves

open Sys2Proof.Machine Sys2Proof.Frames

/-! ## Windows and marks (R111 to R115) -/

theorem anchorHalfTicks_eq (s : State) : anchorHalfTicks s = windowTicks s := by
  have hmodel : anchorHalfTicks s = (effectiveTolerance s.anch.onBackup s * 1000 + 50000 + 39) / 40 := rfl
  rw [hmodel]
  rfl

/-- The anchor once a pulse is marked as second `mark`. -/
def marked (p : Pulse) (half mark : Nat) (a : Anch) : Anch :=
  { a with
    alpha := some ((mark : Int) * 1000000000 - p.stamp)
    s := some (min 281474976710655 (mark + 1))
    window := some { expected := p.tick + 25000000, half := half, missed := false } }

theorem leadPulse_eq (p : Pulse) (half mark : Nat) (a : Anch) : leadPulse p half mark a = marked p half mark a := rfl

theorem goodPulse_eq {p : Pulse} {half sec : Nat} {a : Anch} (h : a.s = some sec) :
    goodPulse p half a = { marked p half sec a with lastGood := some p.tick } := by
  simp only [goodPulse, h]
  rfl

theorem pastWindow_some (p : Pulse) (w : AnchorWindow) : pastWindow p (some w) = true ↔ w.expected + w.half < p.tick := by
  simp [pastWindow]

/-! ## Pulses (R109 to R116) -/

section
variable {p : Pulse} {rest : List Pulse} {s : State}

theorem exec_pulse_ignored (h : s.anch.pulses = p :: rest) (hstate : s.anch.state = .unarmed ∨ s.anch.state = .lost) :
    exec .pulse s = .next (s.onAnch fun a => { a with pulses := rest }) := by
  change execPulse s = _
  rcases hstate with hst | hst <;> simp only [execPulse, h, hst]

theorem exec_pulse_live (h : s.anch.pulses = p :: rest) (hstate : s.anch.state = .armed ∨ s.anch.state = .qualified) :
    exec .pulse s =
      if pastWindow p s.anch.window then .next s else .next ((s.onAnch fun a => { a with pulses := rest }).takePulse p) := by
  change execPulse s = _
  rcases hstate with hst | hst <;> simp only [execPulse, h, hst]

theorem takePulse_lead {sec : Nat} (hstate : s.anch.state = .armed) (hwindow : s.anch.window = none) (hs : s.anch.s = some sec) :
    s.takePulse p = s.onAnch fun a => marked p (windowTicks s) sec a := by
  simp only [State.takePulse, hwindow, hstate, hs, leadPulse_eq, anchorHalfTicks_eq, Option.getD_some, State.onAnch]

theorem takePulse_early {w : AnchorWindow} (hwindow : s.anch.window = some w) (hearly : p.tick + w.half < w.expected) :
    s.takePulse p = s.takeEarlyPulse p w := by
  simp only [State.takePulse, hwindow, if_pos hearly]

theorem takePulse_good {w : AnchorWindow} (hwindow : s.anch.window = some w) (hin : w.expected ≤ p.tick + w.half) :
    s.takePulse p = s.takeGoodPulse p := by
  simp only [State.takePulse, hwindow, if_neg (Nat.not_lt.2 hin)]

/-- The anchor once a good pulse is marked, before it counts. -/
def goodMarked (p : Pulse) (sec : Nat) (s : State) : Anch :=
  { marked p (windowTicks s) sec s.anch with lastGood := some p.tick }

theorem takeGoodPulse_counts {sec : Nat} (hs : s.anch.s = some sec) (hstate : s.anch.state = .armed) (hgood : s.anch.good < 2) :
    s.takeGoodPulse p = { s with anch := { goodMarked p sec s with good := s.anch.good + 1 } } := by
  simp only [State.takeGoodPulse, hstate, if_neg (Nat.not_le.2 hgood), goodPulse_eq hs, anchorHalfTicks_eq, goodMarked]

theorem takeGoodPulse_qualifies {sec : Nat} (hs : s.anch.s = some sec) (hstate : s.anch.state = .armed) (hgood : s.anch.good = 2) :
    s.takeGoodPulse p =
      { s with
        anch := { goodMarked p sec s with state := .qualified, miss := 0, good := 0 }
        net := { s.net with warn := s.net.warn ++ [.remove .anchorLost] } } := by
  simp only [State.takeGoodPulse, hstate, if_pos hgood.ge, goodPulse_eq hs, anchorHalfTicks_eq, goodMarked]
  rfl

theorem takeGoodPulse_keeps {sec : Nat} (hs : s.anch.s = some sec) (hstate : s.anch.state = .qualified) :
    s.takeGoodPulse p = { s with anch := { goodMarked p sec s with miss := 0 } } := by
  simp only [State.takeGoodPulse, hstate, goodPulse_eq hs, anchorHalfTicks_eq, goodMarked]

theorem takeEarlyPulse_armed {w : AnchorWindow} {sec : Nat} (hs : s.anch.s = some sec) (hstate : s.anch.state = .armed) :
    s.takeEarlyPulse p w =
      s.onAnch fun a => { marked p (windowTicks s) (nearestSecond w.expected p.tick sec) a with good := 0 } := by
  rw [State.takeEarlyPulse, hstate, anchorHalfTicks_eq]
  simp only [State.onAnch, hs, Option.getD_some]
  rfl

theorem takeEarlyPulse_marked {w : AnchorWindow} (hstate : s.anch.state = .qualified) (hmissed : w.missed = true) :
    s.takeEarlyPulse p w = s := by
  rw [State.takeEarlyPulse, hstate]
  exact if_pos hmissed

theorem takeEarlyPulse_misses {w : AnchorWindow} (hstate : s.anch.state = .qualified) (hmissed : w.missed = false)
    (hmiss : s.anch.miss = 0) :
    s.takeEarlyPulse p w = s.onAnch fun a => { a with miss := 1, window := some { w with missed := true } } := by
  rw [State.takeEarlyPulse, hstate, hmissed, hmiss]
  simp only [State.onAnch, hmiss, Bool.false_eq_true, if_false]
  rfl

theorem takeEarlyPulse_loses {w : AnchorWindow} (hstate : s.anch.state = .qualified) (hmissed : w.missed = false)
    (hmiss : s.anch.miss = 1) : s.takeEarlyPulse p w = s.lose := by
  rw [State.takeEarlyPulse, hstate, hmissed, hmiss]
  rfl

end

theorem lose_eq (s : State) :
    s.lose =
      { s with
        anch := { s.anch with state := .lost, window := none, miss := 0, good := 0 }
        net := { s.net with warn := s.net.warn ++ [.raise .anchorLost (s.eclk.secs * 1000000000 + s.eclk.ns)] } } := rfl

/-- Settles O45. -/
theorem pulseTaken : Obligations.PulseTaken := by
  intro p rest s hfront seen next mark
  refine ⟨exec_pulse_ignored hfront, fun sec hstate hwindow hs => ?_, fun w sec hwindow hs hstate => ⟨fun hlo hhi => ?_,
    fun hearly => ?_, fun hpast => ?_⟩⟩
  · rw [exec_pulse_live hfront (.inl hstate), hwindow]
    exact congrArg Host.Outcome.next (takePulse_lead (s := { s with anch := seen }) hstate hwindow hs)
  · intro good
    have hexec : exec .pulse s = .next ({ s with anch := seen }.takeGoodPulse p) := by
      rw [exec_pulse_live hfront hstate, hwindow, if_neg (mt (pastWindow_some p w).1 (Nat.not_lt.2 hhi))]
      exact congrArg Host.Outcome.next (takePulse_good (s := { s with anch := seen }) hwindow hlo)
    rw [hexec]
    refine ⟨fun harmed hfew => ?_, fun harmed htwo => ?_, fun hqualified => ?_⟩
    · exact congrArg Host.Outcome.next (takeGoodPulse_counts (s := { s with anch := seen }) hs harmed hfew)
    · exact congrArg Host.Outcome.next (takeGoodPulse_qualifies (s := { s with anch := seen }) hs harmed htwo)
    · exact congrArg Host.Outcome.next (takeGoodPulse_keeps (s := { s with anch := seen }) hs hqualified)
  · have hnotpast : ¬w.expected + w.half < p.tick := fun hpast =>
      lt_asymm ((Nat.le_add_right _ _).trans_lt hearly) ((Nat.le_add_right _ _).trans_lt hpast)
    have hexec : exec .pulse s = .next ({ s with anch := seen }.takeEarlyPulse p w) := by
      rw [exec_pulse_live hfront hstate, hwindow, if_neg (mt (pastWindow_some p w).1 hnotpast)]
      exact congrArg Host.Outcome.next (takePulse_early (s := { s with anch := seen }) hwindow hearly)
    rw [hexec]
    refine ⟨fun harmed hnear => ?_, fun harmed hfar => ?_, fun hqualified hmissed => ?_, fun hqualified hmissed hnone => ?_,
      fun hqualified hmissed hone => ?_⟩
    · rw [takeEarlyPulse_armed (s := { s with anch := seen }) hs harmed, nearestSecond, if_pos hnear]
      rfl
    · rw [takeEarlyPulse_armed (s := { s with anch := seen }) hs harmed, nearestSecond, if_neg (Nat.not_le.2 hfar)]
      rfl
    · exact congrArg Host.Outcome.next (takeEarlyPulse_marked (s := { s with anch := seen }) hqualified hmissed)
    · exact congrArg Host.Outcome.next (takeEarlyPulse_misses (s := { s with anch := seen }) hqualified hmissed hnone)
    · rw [takeEarlyPulse_loses (s := { s with anch := seen }) hqualified hmissed hone, lose_eq]
  · rw [exec_pulse_live hfront hstate, hwindow, if_pos ((pastWindow_some p w).2 hpast)]

/-! ## The end of a window (R114, R116) -/

theorem windowEnded_iff (s : State) (w : AnchorWindow) :
    windowEnded s w = true ↔
      (s.anch.state = .armed ∨ s.anch.state = .qualified) ∧ w.expected + w.half + 1 ≤ s.osc.tick := by
  simp [windowEnded]

theorem exec_windowEnd {s : State} {w : AnchorWindow} (h : s.anch.window = some w) :
    exec .windowEnd s = if windowEnded s w then .next (s.endWindow w) else .next s := by
  change execWindowEnd s = _
  simp only [execWindowEnd, h]

/-- Settles O46. -/
theorem windowEndTaken : Obligations.WindowEndTaken := by
  refine ⟨fun s hnot => ?_, ?_⟩
  · cases hwindow : s.anch.window with
    | none =>
      change execWindowEnd s = _
      simp only [execWindowEnd, hwindow]
    | some w =>
      rw [exec_windowEnd hwindow, if_neg]
      rw [windowEnded_iff]
      rintro ⟨hlive, hended⟩
      rcases hnot with ⟨harmed, hqualified⟩ | hearly
      · exact hlive.elim harmed hqualified
      · exact Nat.not_lt.2 hended (hearly w hwindow)
  intro w sec s hwindow hs hended on
  have hclose : s.onAnch (closeWindow (anchorHalfTicks s) w) = { s with anch := on } := by
    simp only [State.onAnch, closeWindow, hs, anchorHalfTicks_eq]
    rfl
  have hexec (hlive : s.anch.state = .armed ∨ s.anch.state = .qualified) : exec .windowEnd s = .next (s.endWindow w) := by
    rw [exec_windowEnd hwindow, if_pos ((windowEnded_iff s w).2 ⟨hlive, hended⟩)]
  refine ⟨fun hlive hmissed => ?_, fun harmed hmissed => ?_, fun hqualified hmissed hnone => ?_, fun hqualified hmissed hone => ?_⟩
  · rw [hexec hlive]
    simp only [State.endWindow, hclose, hmissed, if_true]
  · rw [hexec (.inl harmed)]
    simp only [State.endWindow, hclose, hmissed, harmed, Bool.false_eq_true, if_false]
    rfl
  · rw [hexec (.inr hqualified)]
    simp only [State.endWindow, hclose, hmissed, hqualified, hnone, Bool.false_eq_true, if_false]
    simp only [State.onAnch, on, hnone]
    rfl
  · rw [hexec (.inr hqualified)]
    simp only [State.endWindow, hclose, hmissed, hqualified, hone, Bool.false_eq_true, if_false, le_refl, if_true]
    rfl

end Sys2Proof.AnchorMoves
end

section
/-! CAPU, the step notices and the mark lines as their statements give them. -/

namespace Sys2Proof.CaptureMoves

open Sys2Proof.Machine Sys2Proof.Frames

/-! ## The edge that is taken (R121, R122, R124) -/

theorem matches_iff (x : EdgeSetting) (e : Edge) :
    x.matches e = true ↔ x = .both ∨ x = .rising ∧ e = .rising ∨ x = .falling ∧ e = .falling := by
  cases x <;> cases e <;> decide

theorem interestOn_of {s : State} {l : CapLineNo} {e : Edge} (h : OfInterest s l e) : interestOn s l = some (l, e) := by
  obtain ⟨hfound, henabled, hedge⟩ := h
  have hmatches := (matches_iff _ _).2 hedge
  simp only [interestOn, hfound, henabled, hmatches, Bool.and_self, if_true]

theorem interestOn_none {s : State} {l : CapLineNo} (h : ∀ e, ¬OfInterest s l e) : interestOn s l = none := by
  unfold interestOn
  split
  · rfl
  next e hfound =>
    refine if_neg fun hedge => h e ⟨hfound, ?_⟩
    rwa [Bool.and_eq_true, matches_iff] at hedge

/-- The first member of a table for which a function answers. -/
theorem findSome?_finRange {n : Nat} {α : Type} {f : Fin n → Option α} {i : Fin n} {b : α} (hi : f i = some b)
    (hlow : ∀ j < i, f j = none) : (List.finRange n).findSome? f = some b := by
  have hlen : i.val < (List.finRange n).length := by simp
  have hsplit : List.finRange n = (List.finRange n).take i ++ i :: (List.finRange n).drop (i + 1) := by
    conv_lhs => rw [← List.take_append_drop i.val (List.finRange n), List.drop_eq_getElem_cons hlen]
    simp
  refine List.findSome?_eq_some_iff.2 ⟨_, i, _, hsplit, hi, fun j hj => hlow j ?_⟩
  obtain ⟨k, hk, rfl⟩ := List.mem_iff_getElem.1 hj
  rw [List.length_take] at hk
  simp only [List.getElem_take, List.getElem_finRange]
  exact Fin.mk_lt_of_lt_val (by simpa using (lt_min_iff.1 hk).1)

theorem firstInterest_eq {s : State} {l : CapLineNo} {e : Edge} (h : OfInterest s l e) (hlow : ∀ m < l, ∀ f, ¬OfInterest s m f) :
    firstInterest s = some (l, e) :=
  findSome?_finRange (interestOn_of h) fun m hm => interestOn_none (hlow m hm)

theorem firstInterest_isSome (s : State) : (firstInterest s).isSome = true ↔ ∃ l e, OfInterest s l e := by
  rw [firstInterest, List.findSome?_isSome_iff]
  constructor
  · rintro ⟨l, -, hl⟩
    by_contra hnone
    rw [interestOn_none fun e he => hnone ⟨l, e, he⟩] at hl
    cases hl
  · rintro ⟨l, e, he⟩
    exact ⟨l, List.mem_finRange l, by rw [interestOn_of he]; rfl⟩

theorem changeEntry_append (f : CapEntry → CapEntry) (before : List CapEntry) (e : CapEntry) (after : List CapEntry) :
    changeEntry f before.length (before ++ e :: after) = before ++ f e :: after := by
  induction before with
  | nil => rfl
  | cons b before ih => simp only [List.length_cons, List.cons_append, changeEntry, ih]

theorem openedGuard_eq (s : State) (l : CapLineNo) (place : Nat) :
    openedGuard s.osc.tick s.svc.image.lines[l] place = guardOpened s l place := by
  have hticks : ticksOfNs s.svc.image.lines[l].guardNs = (s.svc.image.lines[l].guardNs + 39) / 40 := rfl
  unfold openedGuard guardOpened
  rw [hticks]
  by_cases h : s.svc.image.lines[l].guardNs = 0
  · rw [if_pos h, if_pos (by omega)]
  · rw [if_neg h, if_neg (by omega)]

theorem newEntry_eq (s : State) (l : CapLineNo) (e : Edge) : newEntry s l e = entryStored s l e := rfl

theorem insideGuard_iff (tick : Tick) (g : Option LineGuard) :
    insideGuard tick g = true ↔ ∃ x, g = some x ∧ tick < x.closing := by
  cases g <;> simp [insideGuard]

theorem exec_edgeOfInterest {s : State} {l : CapLineNo} {e : Edge} (hnotices : ∀ n ∈ s.net.stepCapu, n.tick = s.osc.tick)
    (h : OfInterest s l e) (hlow : ∀ m < l, ∀ f, ¬OfInterest s m f) : exec .edgeOfInterest s = .next (s.takeEdge l e) := by
  change execEdgeOfInterest s = _
  simp only [execEdgeOfInterest, (overdueNotice_false_iff _ s).2 hnotices, firstInterest_eq h hlow, Bool.false_eq_true, if_false]

section
variable {s : State} {l : CapLineNo} {e : Edge}

theorem takeEdge_config (h : s.agu.sync = .config) :
    s.takeEdge l e = s.onCapu fun c => c.setLine l { c.lines[l] with found := none } := if_pos h

theorem takeEdge_inside (h : s.agu.sync ≠ .config) {g : LineGuard} (hg : s.capu.lines[l].guard = some g)
    (hin : s.osc.tick < g.closing) : s.takeEdge l e = s.followerEdge l g.link := by
  rw [State.takeEdge, if_neg h, if_pos ((insideGuard_iff _ _).2 ⟨g, hg, hin⟩), hg]
  rfl

theorem takeEdge_outside (h : s.agu.sync ≠ .config) (hout : ∀ g, s.capu.lines[l].guard = some g → g.closing ≤ s.osc.tick) :
    s.takeEdge l e = if s.capu.queue.length < 64 then s.storeCapture l e else s.overflowCapture l := by
  have hnot : ¬insideGuard s.osc.tick s.capu.lines[l].guard = true := by
    rw [insideGuard_iff]
    rintro ⟨g, hg, hlt⟩
    exact Nat.not_lt.2 (hout g hg) hlt
  rw [State.takeEdge, if_neg h, if_neg hnot]

end

/-- Settles O47. -/
theorem edgeTaken : Obligations.EdgeTaken := by
  refine ⟨fun s hwait => if_pos ((overdueNotice_iff _ s).2 hwait), ?_⟩
  intro l e s hnotices hedge hlow x line counted
  rw [exec_edgeOfInterest hnotices hedge hlow]
  refine ⟨fun hconfig => ?_, fun hconfig => ⟨fun g hg hin => ⟨fun hlink => ?_, fun before f after hqueue hlink => ?_⟩,
    fun hout => ⟨fun hroom => ?_, fun before f hqueue hfull => ?_⟩⟩⟩
  · rw [takeEdge_config hconfig]
    rfl
  · rw [takeEdge_inside hconfig hg hin, hlink]
    rfl
  · rw [takeEdge_inside hconfig hg hin, hlink, State.followerEdge, State.onCapu]
    simp only [hqueue, changeEntry_append]
    rfl
  · rw [takeEdge_outside hconfig hout, if_pos hroom, State.storeCapture, State.onCapu, openedGuard_eq, newEntry_eq]
    rfl
  · have hlen : s.capu.queue.length = before.length + 1 := by rw [hqueue, List.length_append, List.length_singleton]
    have hlast : changeEntry addFollower before.length s.capu.queue = before ++ [counted f] := by
      rw [hqueue, changeEntry_append]
      rfl
    rw [takeEdge_outside hconfig hout, if_neg (by omega), State.overflowCapture, State.onCapu, openedGuard_eq, hlen,
      Nat.add_sub_cancel, hlast]
    rfl

/-! ## Settling, OVERDUE and the close of a guard (R125, R132, R133) -/

theorem settles_iff (s : State) (e : CapEntry) :
    settles s e = true ↔
      e.state = .pending ∧ (∀ n ∈ s.net.stepCapu, n.tick = s.osc.tick) ∧ ownU s < 4294967295 ∧ e.unc < 4294967295
        ∧ e.ts + e.unc < (clockAtCapu s : Int) - ownU s := by
  have hnotices := overdueNotice_false_iff s.net.stepCapu s
  simp only [settles, Bool.and_eq_true, Bool.not_eq_true', decide_eq_true_eq, hnotices, and_assoc]
  rfl

theorem settleLimitTicks_eq (s : State) : settleLimitTicks s = s.svc.image.settleMs * 25000 := by
  have h : settleLimitTicks s = (s.svc.image.settleMs * 1000000 + 39) / 40 := rfl
  omega

theorem settleLimitReached_iff (s : State) (e : CapEntry) :
    settleLimitReached s e = true ↔ e.state = .pending ∧ e.tick + s.svc.image.settleMs * 25000 ≤ s.osc.tick := by
  simp [settleLimitReached, settleLimitTicks_eq]

section
variable {i : Fin 64} {before after : List CapEntry} {e : CapEntry} {s : State}

theorem exec_settle (hqueue : s.capu.queue = before ++ e :: after) (hi : before.length = i.val) :
    exec (.settle i) s =
      if settles s e then .next { s with capu := { s.capu with queue := before ++ settleEntry e :: after } } else .next s := by
  change execSettle i s = _
  have hat : (before ++ e :: after)[before.length]? = some e := by simp
  simp only [execSettle, hat, State.onCapu, hqueue, ← hi, changeEntry_append]

theorem exec_overdue (hqueue : s.capu.queue = before ++ e :: after) (hi : before.length = i.val) :
    exec (.overdue i) s =
      if settleLimitReached s e then .next { s with capu := { s.capu with queue := before ++ overdueEntry e :: after } }
      else .next s := by
  change execOverdue i s = _
  have hat : (before ++ e :: after)[before.length]? = some e := by simp
  simp only [execOverdue, hat, State.onCapu, hqueue, ← hi, changeEntry_append]

end

/-- Settles O48. -/
theorem settledOverdueAndGuardClosed : Obligations.SettledOverdueAndGuardClosed := by
  refine ⟨?_, fun l g s hguard => ?_⟩
  · intro i before after e s hqueue hi becomes holds limit
    have hsettles := settles_iff s e
    have hlimit := settleLimitReached_iff s e
    rw [exec_settle hqueue hi, exec_overdue hqueue hi]
    refine ⟨fun hpending hholds => if_pos (hsettles.2 ⟨hpending, hholds⟩),
      fun hpending hnot => if_neg fun h => hnot (hsettles.1 h).2,
      fun hpending hreached => if_pos (hlimit.2 ⟨hpending, hreached⟩),
      fun hpending hearly => if_neg fun h => Nat.not_lt.2 (hlimit.1 h).2 hearly,
      fun hdone => ⟨if_neg fun h => hdone (hsettles.1 h).1, if_neg fun h => hdone (hlimit.1 h).1⟩⟩
  · have hexec : exec (.guardClose l) s =
        if g.closing ≤ s.osc.tick then .next (s.onCapu fun c => c.setLine l { c.lines[l] with guard := none }) else .next s := by
      change execGuardClose l s = _
      simp only [execGuardClose, hguard]
    rw [hexec]
    exact ⟨fun hreached => if_pos hreached, fun hearly => if_neg (Nat.not_le.2 hearly)⟩

/-! ## Step notices at their five recipients (R54, R65, R91, R117, R134) -/

theorem capuBusy_iff {s : State} {n : StepNotice} {later : List StepNotice} (h : s.net.stepCapu = n :: later)
    (hn : n.tick = s.osc.tick) :
    capuBusy s n = true ↔
      (∃ l e, OfInterest s l e)
        ∨ (∀ x ∈ later, x.tick = s.osc.tick) ∧ ∃ e ∈ s.capu.queue, e.state = .pending ∧ ownU s < 4294967295 ∧ e.unc < 4294967295
          ∧ e.ts + e.unc < (clockAtCapu s : Int) - ownU s := by
  have hnotices : (∀ x ∈ s.net.stepCapu, x.tick = s.osc.tick) ↔ ∀ x ∈ later, x.tick = s.osc.tick := by
    rw [h, List.forall_mem_cons]
    exact and_iff_right hn
  simp only [capuBusy, hn, decide_true, Bool.true_and, Bool.or_eq_true, firstInterest_isSome, List.any_eq_true, settles_iff,
    hnotices]
  refine or_congr_right ⟨?_, ?_⟩
  · rintro ⟨e, he, hpending, hlater, hrest⟩
    exact ⟨hlater, e, he, hpending, hrest⟩
  · rintro ⟨hlater, e, he, hpending, hrest⟩
    exact ⟨e, he, hpending, hlater, hrest⟩

theorem rebaseEntry_eq (c : Int) (e : CapEntry) :
    rebaseEntry c e =
      { e with
        ts := max (-281474976710655999999999) (min 281474976710655999999999 (e.ts + c))
        rebased := min 15 (e.rebased + 1) } := by
  rw [rebaseEntry, clampStamp, satAbs_eq (by decide)]
  rfl

theorem rebaseObservation_eq (c : Int) (o : Observation) :
    rebaseObservation c o =
      { o with
        theta := max (-(2 ^ 47 - 1)) (min (2 ^ 47 - 1) (o.theta - c))
        thetaP := max (-(2 ^ 63 - 1)) (min (2 ^ 63 - 1) (o.thetaP - c)) } := by
  rw [rebaseObservation, PeerMoves.thetaP_eq, satAbs_eq (by decide)]
  rfl

theorem exec_stepNoticeAtCapu {s : State} {n : StepNotice} {later : List StepNotice} (h : s.net.stepCapu = n :: later) :
    exec .stepNoticeAtCapu s =
      if capuBusy s n then .next s
      else
        .next
          { s with
            net := { s.net with stepCapu := later }
            capu := { s.capu with queue := s.capu.queue.map (rebaseEntry n.c) } } := by
  change execStepNoticeAtCapu s = _
  simp only [execStepNoticeAtCapu, h]
  rfl

/-- Settles O34. -/
theorem stepNoticesTaken : Obligations.StepNoticesTaken := by
  intro c rest s
  refine ⟨AgreementMoves.exec_stepNoticeAtAgu, fun hfront => ?_, fun hfront => ?_, fun hfront => ?_, ?_⟩
  · refine ⟨{ s with ptab := mapAll (rebaseRecord c) s.ptab, net := { s.net with rebase := rest } }, ?_, rfl, fun q => ?_⟩
    · change execRebaseNotice s = _
      simp only [execRebaseNotice, hfront]
      rfl
    · simp only [Fin.getElem_fin, mapAll_getElem, rebaseRecord, funext (rebaseObservation_eq c)]
  · refine ⟨{ s with
      dmon := { s.dmon with drift := mapAll (fun r => { r with window := [] }) s.dmon.drift, stepTick := some s.osc.tick }
      net := { s.net with stepDmon := rest } }, ?_, rfl, fun q => ?_⟩
    · change execStepNoticeAtDmon s = _
      simp only [execStepNoticeAtDmon, hfront]
      rfl
    · simp only [Fin.getElem_fin, mapAll_getElem]
  · change execStepNoticeAtAnch s = _
    simp only [execStepNoticeAtAnch, hfront]
    rfl
  · intro n later hfront settleable waiting
    have hexec := exec_stepNoticeAtCapu hfront
    rw [funext (rebaseEntry_eq n.c)] at hexec
    rw [hexec]
    refine ⟨fun hn hwait => if_pos ((capuBusy_iff hfront hn).2 hwait), fun hfree => if_neg fun hbusy => ?_⟩
    have hn : n.tick = s.osc.tick := by
      simp only [capuBusy, Bool.and_eq_true, decide_eq_true_eq] at hbusy
      exact hbusy.1
    exact hfree.elim (· hn) (· ((capuBusy_iff hfront hn).1 hbusy))

/-! ## Mark lines, conditions and pins (R140, R150, R159, R176, R182) -/

theorem releaseReached_iff (s : State) {x : MarkLine} {t : Tick} (h : x.release = some t) :
    releaseReached s x = true ↔ t ≤ s.osc.tick := by
  simp [releaseReached, h]

theorem headReady_iff (q : List CapEntry) :
    headReady q = true ↔ ∃ e rest, q = e :: rest ∧ (e.state = .settled ∨ e.state = .overdue) := by
  cases q with
  | nil => simp [headReady]
  | cons e rest => cases hst : e.state <;> simp [headReady, hst]

theorem anyCompletion_iff (m : Msch) : anyCompletion m = true ↔ ∃ n : EntryNo, m.entries[n].completion = true := by
  simp only [anyCompletion, List.any_eq_true, Vector.mem_toList_iff, Vector.mem_iff_getElem]
  constructor
  · rintro ⟨e, ⟨i, hi, rfl⟩, he⟩
    exact ⟨⟨i, hi⟩, he⟩
  · rintro ⟨n, hn⟩
    exact ⟨_, ⟨n.val, n.isLt, rfl⟩, hn⟩

theorem attentionLine_iff (s : State) :
    attentionLine s = true ↔
      s.svc.maskCapture = true ∧ s.svc.capCond = true ∨ s.svc.maskWarnings = true ∧ s.svc.warningsChanged = true
        ∨ s.svc.maskSchedule = true ∧ s.svc.schedCond = true := by
  simp only [attentionLine, Bool.or_eq_true, Bool.and_eq_true, or_assoc]

/-- Settles O52. -/
theorem marksReleasedAndConditionsReported : Obligations.MarksReleasedAndConditionsReported := by
  intro s
  refine ⟨fun l t h => ?_, ⟨headReady s.capu.queue, rfl, headReady_iff _⟩, ⟨anyCompletion s.msch, rfl, anyCompletion_iff _⟩,
    ⟨attentionLine_iff s, fun h => ?_, fun h => ?_⟩, fun l => ⟨?_, rfl⟩, rfl⟩
  · have hreach := releaseReached_iff s h
    exact ⟨fun hreached => if_pos (hreach.2 hreached), fun hearly => if_neg fun hr => Nat.not_le.2 hearly (hreach.1 hr)⟩
  · exact if_pos ((attentionLine_iff s).2 h)
  · exact if_neg (mt (attentionLine_iff s).1 h)
  · simp only [markPin, PinLevel.ofBit, Bool.not_false, Bool.true_and]

end Sys2Proof.CaptureMoves
end

section
/-! The bytes of the responses: each kind of item as the model codes it, and each body as its items (R180, R181). -/

namespace Sys2Proof.Items

open Sys2Proof.Machine Sys2Proof.FrameLaws

/-! ## Numbers as bytes -/

theorem beBytes_mod (n v : Nat) : beBytes n (v % 256 ^ n) = beBytes n v := by
  induction n generalizing v with
  | zero => rfl
  | succ n ih =>
    have hlow : v % 256 ^ (n + 1) % 256 ^ n = v % 256 ^ n := Nat.mod_mod_of_dvd _ (Nat.pow_dvd_pow _ (Nat.le_succ _))
    have hhigh : v % 256 ^ (n + 1) / 256 ^ n = v / 256 ^ n % 256 := by rw [Nat.pow_succ, Nat.mod_mul_right_div_self]
    rw [beBytes, beBytes, hhigh, ← ih (v % 256 ^ (n + 1)), hlow, ih]
    congr 1
    exact BitVec.eq_of_toNat_eq (by simp)

@[simp] theorem beBytes_one (v : Nat) : beBytes 1 v = [BitVec.ofNat 8 v] := by simp [beBytes]

theorem beNat_ones (n : Nat) : beNat (ones n) = 256 ^ n - 1 := by
  induction n with
  | zero => rfl
  | succ n ih =>
    have hpos : 0 < 256 ^ n := Nat.pow_pos (by decide)
    rw [ones, List.replicate_succ', beNat_append, ← ones, ih, Nat.pow_succ]
    change (256 ^ n - 1) * 256 + 255 = _
    omega

@[simp] theorem beBytes_ones (n : Nat) : beBytes n (256 ^ n - 1) = ones n := by
  have hlen : (ones n).length = n := List.length_replicate
  have h := beBytes_beNat (ones n)
  rwa [beNat_ones, hlen] at h

/-! ## The kinds of item (R181) -/

@[simp] theorem bytes_number (n v : Nat) : (Item.number n (some v)).bytes = beBytes n v := bigEndian_eq n v

@[simp] theorem bytes_count (n : Nat) (o : Option Nat) : (Item.number n o).bytes = countItem n o := by
  cases o with
  | none => exact (bigEndian_eq _ _).trans (beBytes_ones n)
  | some v => exact bytes_number n v

@[simp] theorem bytes_flag (b : Bool) : (Item.flag b).bytes = flagItem b := rfl

@[simp] theorem countItem_some (n v : Nat) : countItem n (some v) = beBytes n v := rfl

@[simp] theorem countItem_number {n : Nat} (o : Option (Fin n)) : countItem 1 (o.map Fin.val) = numberOrNone o := by
  cases o with
  | none => rfl
  | some i => exact beBytes_one i.val

theorem beBytes_of_int (n v : Nat) : beBytes n ((v : Int) % (256 ^ n : Nat)).toNat = beBytes n v := by
  rw [← Int.natCast_mod, Int.toNat_natCast, beBytes_mod]

@[simp] theorem bytes_signedTick (o : Option Int) : (Item.tick o).bytes = signedTickItem o := by
  cases o <;> exact bigEndian_eq 8 _

@[simp] theorem signedTickItem_none : signedTickItem none = tickItem none := rfl

@[simp] theorem signedTickItem_some (t : Nat) : signedTickItem (some (t : Int)) = tickItem (some t) := beBytes_of_int 8 t

@[simp] theorem signedTickItem_map {α : Type} (f : α → Nat) (o : Option α) :
    signedTickItem (o.map fun x => (f x : Int)) = tickItem (o.map f) := by
  cases o with
  | none => rfl
  | some x => exact signedTickItem_some (f x)

@[simp] theorem signedTickItem_bind (o : Option Tick) : signedTickItem (o.bind fun t => some (t : Int)) = tickItem o := by
  cases o with
  | none => rfl
  | some t => exact signedTickItem_some t

@[simp] theorem uncItem_some (u : Nat) : uncItem (some u) = beBytes 4 u := rfl

@[simp] theorem bytes_time (o : Option Nat) : (Item.time o).bytes = timeItem o := by
  cases o with
  | none => rfl
  | some ns =>
    simp only [Item.bytes, bigEndian_eq]
    rfl

@[simp] theorem bytes_signedNs (o : Option Int) : (Item.signedNs o).bytes = signedNsItem o := by
  cases o <;> exact bigEndian_eq 8 _

@[simp] theorem bytes_signedTime (o : Option Int) : (Item.signedTime o).bytes = signedTimeItem o := by
  cases o with
  | none => rfl
  | some x =>
    simp only [Item.bytes, bigEndian_eq]
    rfl

@[simp] theorem bytes_uncertainty (o : Option Nat) : (Item.uncertainty o).bytes = uncItem o := by
  cases o with
  | none => exact bytes_count 4 none
  | some u => exact bigEndian_eq 4 u

@[simp] theorem bytes_term (o : Option Int) : (Item.term o).bytes = termItem o := by
  cases o <;> exact bigEndian_eq 4 _

@[simp] theorem bytes_stations (ps : List Station) : (Item.stations ps).bytes = stationsItem ps := rfl

/-! ## Codes (R181) -/

@[simp] theorem bytes_sync (x : SyncState) : (syncItem x).bytes = [x.code] := by cases x <;> rfl

@[simp] theorem bytes_oscillator (x : OscSelection) : (Item.coded [.primary, .backup] x).bytes = [x.code] := by cases x <;> rfl

@[simp] theorem bytes_tx (x : TxState) : (Item.coded [.quiet, .waiting, .deferring, .sending, .muted] x).bytes = [x.code] := by
  cases x <;> rfl

@[simp] theorem bytes_link (x : LinkState) : (Item.coded [.absent, .listening, .admitted, .barred, .silent] x).bytes = [x.code] := by
  cases x <;> rfl

@[simp] theorem bytes_verdict (x : Verdict) : (Item.coded [.steady, .suspect, .drifting, .easing] x).bytes = [x.code] := by
  cases x <;> rfl

@[simp] theorem bytes_outcome (x : RoundOutcome) : (Item.coded [.agreed, .split, .sparse, .none] x).bytes = [x.code] := by
  cases x <;> rfl

@[simp] theorem bytes_application (x : Application) : (Item.coded [.slew, .step, .anchorFollow, .none] x).bytes = [x.code] := by
  cases x <;> rfl

@[simp] theorem bytes_review (x : ReviewOutcome) : (Item.coded [.conclusive, .inconclusive, .none] x).bytes = [x.code] := by
  cases x <;> rfl

@[simp] theorem bytes_anchor (x : AnchorState) : (Item.coded [.unarmed, .armed, .qualified, .lost] x).bytes = [x.code] := by
  cases x <;> rfl

@[simp] theorem bytes_edge (x : Edge) : (Item.coded [.rising, .falling] x).bytes = [x.code] := by cases x <;> rfl

@[simp] theorem bytes_edgeSetting (x : EdgeSetting) : (Item.coded [.rising, .falling, .both] x).bytes = [x.code] := by cases x <;> rfl

@[simp] theorem bytes_entryState (x : EntryState) : (Item.coded [.pending, .settled, .overdue] x).bytes = [x.code] := by
  cases x <;> rfl

@[simp] theorem bytes_mode (x : Mode) : (Item.coded [.single, .finite, .cyclic] x).bytes = [x.code] := by cases x <;> rfl

@[simp] theorem bytes_period (x : Period) :
    (Item.coded [.ms125, .ms250, .ms500, .ms1000, .ms2000] x).bytes = [BitVec.ofNat 8 x.code] := by
  cases x <;> rfl

@[simp] theorem bytes_stationFlags (unset humble muted anchored : Bool) :
    (stationFlagsItem unset humble muted anchored).bytes = [stationFlagsByte unset humble muted anchored] := by
  cases unset <;> cases humble <;> cases muted <;> cases anchored <;> rfl

@[simp] theorem bytes_threeBits (capture warnings schedule : Bool) :
    (threeBitsItem capture warnings schedule).bytes = [attentionByte capture warnings schedule] := by
  cases capture <;> cases warnings <;> cases schedule <;> rfl

/-! ## Lists of items -/

@[simp] theorem itemBytes_nil : itemBytes [] = [] := rfl

@[simp] theorem itemBytes_cons (i : Item) (is : List Item) : itemBytes (i :: is) = i.bytes ++ itemBytes is := rfl

@[simp] theorem itemBytes_append (is js : List Item) : itemBytes (is ++ js) = itemBytes is ++ itemBytes js := List.flatMap_append

@[simp] theorem itemBytes_flatMap {α : Type} (f : α → List Item) (xs : List α) :
    itemBytes (xs.flatMap f) = xs.flatMap fun x => itemBytes (f x) := List.flatMap_assoc

theorem toList_flatMap {α β : Type} {n : Nat} (v : Vector α n) (f : α → List β) :
    v.toList.flatMap f = (List.finRange n).flatMap fun i => f v[i] := by
  have hlist : v.toList = (List.finRange n).map fun i => v[i] := by
    refine List.ext_getElem (by simp) fun i hi hi' => by simp
  rw [hlist, List.flatMap_map]

/-! ## The bodies (R127, R139, R147, R163, R172 to R174) -/

theorem itemBytes_capture (e : CapEntry) : itemBytes (captureItems e) = captureBytes e := by
  have hlabel : (e.label.map BitVec.toNat).getD 0 = (e.label.getD 0).toNat := by cases e.label <;> rfl
  simp [captureItems, captureBytes, hlabel, tickItem]

theorem itemBytes_warning (w : Warning) : itemBytes (warningItems w) = warningBytes w := by
  obtain ⟨kind, subject, time, value⟩ := w
  have hkind : (Item.number 1 (some (1 + List.idxOf kind
      [.peerDrifting, .selfDrifting, .selfAccused, .noAgreement, .anchorLost, .overflow, .duplicateNumber, .oscFallback]))).bytes
        = [kind.code] := by cases kind <;> rfl
  cases subject <;> simp [warningItems, warningBytes, hkind, termItem, countItem, ones, stationByte, -bytes_number]

theorem itemBytes_scalars (img : Image) : itemBytes (scalarItems img) = scalarBytes img := by
  simp [scalarItems, scalarBytes]

theorem itemBytes_attrs (a : ProfileAttrs) : itemBytes (attrItems a) = attrBytes a := by
  simp [attrItems, attrBytes]

theorem itemBytes_setup (l : LineSetup) : itemBytes (setupItems l) = setupBytes l := by
  simp [setupItems, setupBytes]

theorem itemBytes_image (img : Image) : itemBytes (imageItems img) = imageBody img := by
  simp [imageItems, imageBody, itemBytes_scalars, itemBytes_attrs, itemBytes_setup, toList_flatMap, windowBytes]

theorem itemBytes_record (r : AgreementRecord) : itemBytes (recordItems r) = recordBytes r := by
  obtain ⟨outcome, close, n, c, region, corr, h, application, posted, participants, dissenters, newBase, baseSet⟩ := r
  cases posted with
  | none => simp [recordItems, recordBytes]
  | some p => cases p <;> simp [recordItems, recordBytes]

theorem itemBytes_capLine (setup : LineSetup) (x : CapLine) : itemBytes (capLineItems setup x) = capLineBytes setup x := by
  have hlatch : (x.latch.map BitVec.toNat).getD 0 = (x.latch.getD 0).toNat := by cases x.latch <;> rfl
  have hlink : decide (∃ g, x.guard = some g ∧ g.link.isSome = true) = (x.guard.bind LineGuard.link).isSome := by
    cases x.guard <;> simp
  simp [capLineItems, capLineBytes, itemBytes_setup, hlatch, hlink]

theorem itemBytes_program (p : Program) : itemBytes (programItems p) = programBytes p := by
  obtain ⟨mode, period, count, reload, output, width, guard, chain, report⟩ := p
  cases guard <;> simp [programItems, programBytes, guardBound, Guard.code]

theorem itemBytes_entry (e : SchedEntry) : itemBytes (entryItems e) = entryBody e := by
  simp [entryItems, entryBody, itemBytes_program]

theorem itemBytes_observation (o : Option Observation) : itemBytes (observationItems o) = observationBytes o := by
  cases o <;> simp [observationItems, observationBytes, beaconFlagItems, flagItem, List.replicate]

theorem profileItem_window (w : Fin 4) : profileItem (some (.window w)) = countItem 1 (some w.val) := (beBytes_one w.val).symm

theorem itemBytes_peer (s : State) (p : Station) : itemBytes (peerItems s p) = peerBody s p := by
  have hms : (fun i : Period => i.ns / 1000000) = Period.ms := funext fun i => by cases i <;> rfl
  simp only [peerItems, peerBody, peerRecordBytes, driftBytes, hms, Fin.getElem_fin]
  rcases s.ptab[p.val].profile with _ | ⟨w⟩ | _
  case some.window => simp [itemBytes_observation, profileItem_window]
  all_goals simp [itemBytes_observation, profileItem, countItem, ones]

theorem countInState_eq_countP (st : EntryState) (q : List CapEntry) : countInState st q = q.countP fun e => e.state = st :=
  List.countP_eq_length_filter.symm

theorem phaseTotalNs_eq (s : State) : phaseTotalNs s = s.eclk.phaseTotal.tdiv (2 ^ 24) := rfl

theorem clockNs_eq (s : State) : clockNs s = s.eclk.secs * 1000000000 + s.eclk.ns := rfl

theorem strappedF_eq (s : State) : strappedF s = faultTolerance s.svc.ftCode := rfl

theorem itemBytes_status (s : State) : itemBytes (statusItems s) = statusBody s := by
  simp [statusItems, statusBody, statusSvc, statusClock, statusSpan, statusAgu, statusDmon, statusAnch, statusCapu, statusMsch,
    itemBytes_scalars, itemBytes_record, itemBytes_capLine, toList_flatMap, reviewBytes, maskByte, conditionsByte,
    countInState_eq_countP, phaseTotalNs_eq, clockNs_eq, strappedF_eq, stationByte]

end Sys2Proof.Items
end

section
/-! The requests as the statements give them, but CONFIGURE: what each reads, changes and answers (chapters 7 to 9). -/

namespace Sys2Proof.Requests

open Sys2Proof.Machine Sys2Proof.Frames Sys2Proof.Schedule Sys2Proof.Fires Sys2Proof.AgreementMoves Sys2Proof.Items

/-! ## Operands (R171, R180) -/

theorem indexBelow_of_le {n : Nat} {b : Byte} (h : n ≤ b.toNat) : indexBelow n b = none := dif_neg (Nat.not_lt.2 h)

theorem indexBelow_val {n : Nat} {b : Byte} {i : Fin n} (h : b.toNat = i.val) : indexBelow n b = some i :=
  (dif_pos (h ▸ i.isLt)).trans (congrArg some (Fin.ext h))

theorem optionalIndex_of_le {n : Nat} {b : Byte} (h : n ≤ b.toNat) (hff : b ≠ 0xFF) : optionalIndex n b = none := by
  rw [optionalIndex, if_neg hff, indexBelow_of_le h, Option.map_none]

theorem optionalIndex_eq {n : Nat} (hn : n ≤ 255) {b : Byte} {o : Option (Fin n)}
    (h : o = none ∧ b = 0xFF ∨ ∃ i, o = some i ∧ b.toNat = i.val) : optionalIndex n b = some o := by
  rcases h with ⟨rfl, rfl⟩ | ⟨i, rfl, hi⟩
  · rfl
  · have hff : b ≠ 0xFF := by
      rintro rfl
      have hlt := i.isLt
      rw [← hi] at hlt
      exact absurd hn (Nat.not_le.2 hlt)
    rw [optionalIndex, if_neg hff, indexBelow_val hi, Option.map_some]

theorem clampNat_eq {lo hi : Nat} (h : lo ≤ hi) (x : Nat) : clampNat lo hi x = max lo (min hi x) := by
  unfold clampNat
  split
  · omega
  · split <;> omega

/-! ## SETTIME and ANCHOR (R68, R110, R166) -/

theorem settimeNs_cast (sec : BitVec 48) (ns : BitVec 32) :
    (settimeNs sec ns : Int) = (sec.toNat : Int) * 1000000000 + min 999999999 ns.toNat := by
  simp [settimeNs, Config.nsPerSecond]

theorem timeItem_clock {s : State} (h : s.eclk.ns < 1000000000) :
    timeItem (some (clockNs s)) = beBytes 6 s.eclk.secs ++ beBytes 4 s.eclk.ns := by
  have hsecs : clockNs s / Config.nsPerSecond = s.eclk.secs := by
    unfold clockNs Config.nsPerSecond
    omega
  have hns : clockNs s % Config.nsPerSecond = s.eclk.ns := by
    unfold clockNs Config.nsPerSecond
    omega
  rw [timeItem, hsecs, hns]

theorem anchorSeconds_eq (sec : BitVec 48) : anchorSeconds sec = sec.toNat := by
  have hlt := sec.isLt
  unfold anchorSeconds Config.maxSeconds
  omega

/-- Settles O54. -/
theorem settimeAndAnchorTaken : Obligations.SettimeAndAnchorTaken := by
  intro sec ns u s hfree
  refine ⟨fun hunset => ?_, fun hset => ?_, fun hconfig => ?_, fun hother => ?_⟩
  · intro now c
    have hc : c = (settimeNs sec ns : Int) - clockNs s := by rw [settimeNs_cast]; rfl
    refine ⟨timeItem (some (clockNs s)) ++ signedTimeItem (some c), ?_, fun hns => ?_⟩
    · rw [hc]
      exact congrArg Host.Outcome.next (takeRequest_answered hfree (if_pos hunset) rfl)
    · rw [timeItem_clock hns]
      rfl
  · exact congrArg Host.Outcome.next (takeRequest_unchanged hfree (if_neg (by simp [hset])))
  · exact congrArg Host.Outcome.next (takeRequest_unchanged hfree (if_pos hconfig))
  · rw [← anchorSeconds_eq sec]
    exact congrArg Host.Outcome.next (takeRequest_answered hfree (if_neg hother) rfl)

/-! ## DATE, PEEK, STATUS and PEER (R136, R139, R172, R173) -/

theorem oscCode_eq (x : OscSelection) : x.code = if x = .primary then 0 else 1 := by cases x <;> rfl

theorem stationFlagsByte_eq (unset humble muted anchored : Bool) : stationFlagsByte unset humble muted anchored =
    BitVec.ofNat 8 ((if unset then 8 else 0) + (if humble then 4 else 0) + (if muted then 2 else 0) + if anchored then 1 else 0) := by
  cases unset <;> cases humble <;> cases muted <;> cases anchored <;> rfl

theorem flagItem_length (b : Bool) : (flagItem b).length = 1 := rfl

theorem timeItem_some_length (ns : Nat) : (timeItem (some ns)).length = 10 := by simp [timeItem]

theorem signedTimeItem_some_length (x : Int) : (signedTimeItem (some x)).length = 11 := by
  simp [signedTimeItem, timeItem_some_length]

theorem captureBytes_length (e : CapEntry) : (captureBytes e).length = 34 := by
  simp [captureBytes, flagItem_length, signedTimeItem_some_length]

theorem insertByDrift_beginRequest (code : Byte) (s : State) (p : Station) (qs : List Station) :
    insertByDrift (s.beginRequest code) p qs = insertByDrift s p qs := by
  induction qs with
  | nil => rfl
  | cons q qs ih => rw [insertByDrift, insertByDrift, ih, State.beginRequest_dmon]

theorem accusationList_beginRequest (code : Byte) (s : State) : accusationList (s.beginRequest code) = accusationList s := by
  have hinsert : insertByDrift (s.beginRequest code) = insertByDrift s :=
    funext fun p => funext fun qs => insertByDrift_beginRequest code s p qs
  have hdrifting : accusedDrifting (s.beginRequest code) = accusedDrifting s := rfl
  have hbarred : accusedBarred (s.beginRequest code) = accusedBarred s := rfl
  rw [accusationList, accusationList, hinsert, hdrifting, hbarred]

theorem peerBody_beginRequest (code : Byte) (s : State) (p : Station) : peerBody (s.beginRequest code) p = peerBody s p := by
  simp only [peerBody, driftBytes, accusationList_beginRequest, State.beginRequest_ptab, State.beginRequest_dmon]

theorem statusBody_beginRequest (code : Byte) (s : State) : statusBody (s.beginRequest code) = statusBody s := by
  have hparts : statusSvc (s.beginRequest code).svc = statusSvc s.svc ∧ statusClock (s.beginRequest code) = statusClock s
      ∧ statusAgu (s.beginRequest code) = statusAgu s ∧ statusCapu (s.beginRequest code) = statusCapu s := ⟨rfl, rfl, rfl, rfl⟩
  obtain ⟨hsvc, hclock, hagu, hcapu⟩ := hparts
  simp only [statusBody, statusDmon, accusationList_beginRequest, hsvc, hclock, hagu, hcapu, State.beginRequest_span,
    State.beginRequest_anch, State.beginRequest_msch, State.beginRequest_dmon]

/-- Settles O55. -/
theorem queriesAnswered : Obligations.QueriesAnswered := by
  intro s hfree
  refine ⟨fun hns => ?_, fun hempty => ?_, fun e rest hq => ⟨?_, ?_⟩, ?_, fun n => ⟨fun hn => ?_, fun hown => ?_, fun p hp hn => ?_⟩⟩
  · have hact : takeDate (s.beginRequest 0x10) = unchanged .ok (dateBody s) (s.beginRequest 0x10) := rfl
    refine (congrArg Host.Outcome.next (takeRequest_unchanged hfree hact)).trans ?_
    rw [dateBody, timeItem_clock hns, oscCode_eq, stationFlagsByte_eq, uncItem_some]
    simp only [anchoredFlag, decide_eq_true_eq]
    cases s.agu.sync <;> rfl
  · exact congrArg Host.Outcome.next (takeRequest_unchanged hfree (by simp [takePeek, hempty]))
  · refine congrArg Host.Outcome.next (takeRequest_unchanged hfree ?_)
    simp [takePeek, hq, itemBytes_capture]
  · rw [itemBytes_capture, captureBytes_length]
  · rw [itemBytes_status]
    refine congrArg Host.Outcome.next (takeRequest_unchanged hfree ?_)
    rw [takeStatus, statusBody_beginRequest]
  · exact congrArg Host.Outcome.next (takeRequest_unchanged hfree (by simp [takePeer, indexBelow_of_le hn]))
  · refine congrArg Host.Outcome.next (takeRequest_unchanged hfree ?_)
    simp [takePeer, indexBelow_val hown]
  · rw [itemBytes_peer]
    refine congrArg Host.Outcome.next (takeRequest_unchanged hfree ?_)
    simp [takePeer, indexBelow_val hn, hp, peerBody_beginRequest]

end Sys2Proof.Requests
end

section
/-! The requests at CAPU, MSCH and SVC's own state, and the port itself, as the statements give them (chapters 7 to 9). -/

namespace Sys2Proof.Tables

open Sys2Proof.Machine Sys2Proof.Frames Sys2Proof.Schedule Sys2Proof.Fires Sys2Proof.AgreementMoves Sys2Proof.Items Sys2Proof.Requests

/-! ## TAKE and LABEL (R126, R137) -/

theorem unlinkHead_eq (g : LineGuard) :
    unlinkHead g = { g with link := g.link.bind fun i => if i = 0 then none else some (i - 1) } := by
  obtain ⟨closing, link⟩ := g
  rcases link with _ | _ | i <;> rfl

/-- Settles O56. -/
theorem takeAndLabel : Obligations.TakeAndLabel := by
  intro s hfree
  refine ⟨fun hempty => ?_, fun e rest hq hpending => ?_, fun e rest hq hready => ⟨s.removeHead rest, ?_, ?_, fun l => ?_⟩,
    fun line value => ⟨fun hline => ?_, fun l hl => ?_⟩⟩
  · exact congrArg Host.Outcome.next (takeRequest_unchanged hfree (by simp [takeTake, hempty]))
  · exact congrArg Host.Outcome.next (takeRequest_unchanged hfree (by simp [takeTake, hq, hpending]))
  · refine congrArg Host.Outcome.next (takeRequest_answered hfree ?_ rfl)
    simp only [takeTake, State.beginRequest_capu, hq, if_neg hready, itemBytes_capture, beBytes_one]
    rfl
  · cases rest <;> rfl
  · have hline : (s.removeHead rest).capu.lines[l] =
        { s.capu.lines[l] with guard := s.capu.lines[l].guard.map unlinkHead } := by simp [State.removeHead]
    rw [hline, funext unlinkHead_eq]
  · exact congrArg Host.Outcome.next (takeRequest_unchanged hfree (by simp [takeLabel, indexBelow_of_le hline]))
  · refine congrArg Host.Outcome.next (takeRequest_answered hfree ?_ rfl)
    simp only [takeLabel, indexBelow_val hl]
    rfl

/-! ## STAGE (R144) -/

theorem clampNat_word (c : BitVec 16) : clampNat 1 65535 c.toNat = max 1 c.toNat := by
  rw [clampNat_eq (by decide), Nat.min_eq_right (Nat.le_of_lt_succ c.isLt)]

theorem stagedProgram_eq (a : StageArgs) (output : Option MarkLineNo) (chain : Option EntryNo) :
    stagedProgram a output chain =
      { mode := if a.mode = 0 then .single else if a.mode = 1 then .finite else .cyclic
        period := max 1000 (min 1000000000000 a.period.toNat)
        count := max 1 a.count.toNat
        reload := max 1 a.reload.toNat
        output := output
        width := (max 40 (min 1000000 a.width.toNat) + 39) / 40
        guard :=
          if a.guard = 0 then .none
          else if a.guard = 1 then .agreedOnly
          else .bound (min 4294967294 a.bound.toNat)
        chain := chain
        report := a.report } := by
  rw [stagedProgram, clampNat_word, clampNat_word, clampNat_eq (by decide), clampNat_eq (by decide)]
  rfl

/-- Settles O57. -/
theorem stageTaken : Obligations.StageTaken := by
  intro a s hfree
  refine ⟨fun hbad => ?_, fun n output chain hn hout hchain => ⟨fun hconfig => ?_, fun hother => ?_⟩⟩
  · refine congrArg Host.Outcome.next (takeRequest_unchanged hfree ?_)
    rcases hbad with hentry | ⟨hout, hff⟩ | ⟨hchain, hff⟩
    · simp [takeStage, indexBelow_of_le hentry]
    · simp [takeStage, optionalIndex_of_le hout hff]
    · simp [takeStage, optionalIndex_of_le hchain hff]
  · refine congrArg Host.Outcome.next (takeRequest_unchanged hfree ?_)
    simp [takeStage, indexBelow_val hn, optionalIndex_eq (by decide) hout, optionalIndex_eq (by decide) hchain, hconfig]
  · refine congrArg Host.Outcome.next (takeRequest_answered hfree ?_ rfl)
    simp only [takeStage, indexBelow_val hn, optionalIndex_eq (by decide) hout, optionalIndex_eq (by decide) hchain,
      State.beginRequest_agu]
    rw [← stagedProgram_eq]
    exact if_neg hother

/-! ## ARM, STOP and ENTRY (R145 to R147) -/

theorem armable_eq_none {e : SchedEntry} (h : e.staged = false ∨ e.stagingFire = none) : armable e = none := by
  rcases h with h | h <;> simp [armable, h]

/-- ARM of an entry that can be armed. -/
theorem takeArm_armed {b : Byte} {n : EntryNo} {s : State} (hn : b.toNat = n.val) (hsync : s.agu.sync ≠ .config) {t : Nat}
    (hidle : s.msch.entries[n].armed = false) (ht : armable s.msch.entries[n] = some t) :
    takeArm b s = (s.onMsch fun m => m.armEntry (fireContext s) n t, .ok, []) := by
  simp only [takeArm, indexBelow_val hn, if_neg hsync, hidle, ht]
  rfl

theorem armEntry_waits {ctx : FireContext} {t : Nat} (h : ctx.clock < t) (n : EntryNo) (m : Msch) :
    m.armEntry ctx n t = m.setEntry n (armedAt t m.entries[n]) := by
  rw [← armedEntry_eq]
  exact if_neg (Nat.not_le.2 h)

theorem armEntry_catchesUp {ctx : FireContext} {t : Nat} (h : t ≤ ctx.clock) (n : EntryNo) (m : Msch) :
    m.armEntry ctx n t = (m.setEntry n (armedAt t m.entries[n])).fireEntry ctx cascadeFuel true n := by
  rw [← armedEntry_eq]
  exact if_pos h

/-- Settles O58. -/
theorem armStopAndEntryTaken : Obligations.ArmStopAndEntryTaken := by
  refine ⟨fun b s hfree hb => ⟨?_, ?_, ?_⟩, fun b n s hfree hn hstanding => ?_⟩
  · exact congrArg Host.Outcome.next (takeRequest_unchanged hfree (by simp [takeArm, indexBelow_of_le hb]))
  · exact congrArg Host.Outcome.next (takeRequest_unchanged hfree (by simp [takeStop, indexBelow_of_le hb]))
  · exact congrArg Host.Outcome.next (takeRequest_unchanged hfree (by simp [takeEntry, indexBelow_of_le hb]))
  intro e clock put
  refine ⟨?_, fun hconfig => ⟨?_, ?_⟩, fun hother => ⟨?_, fun harmed => ?_, fun hidle hnone => ?_, fun t hidle hstaged hfire => ?_⟩⟩
  · rw [itemBytes_entry]
    refine congrArg Host.Outcome.next (takeRequest_answered hfree ?_ rfl)
    simp only [takeEntry, indexBelow_val hn]
    rfl
  · exact congrArg Host.Outcome.next (takeRequest_unchanged hfree (by simp [takeArm, indexBelow_val hn, hconfig]))
  · exact congrArg Host.Outcome.next (takeRequest_unchanged hfree (by simp [takeStop, indexBelow_val hn, hconfig]))
  · refine congrArg Host.Outcome.next (takeRequest_answered hfree ?_ rfl)
    simp only [takeStop, indexBelow_val hn]
    exact if_neg hother
  · refine congrArg Host.Outcome.next (takeRequest_unchanged hfree ?_)
    simp only [takeArm, indexBelow_val hn]
    exact (if_neg hother).trans (if_pos harmed)
  · refine congrArg Host.Outcome.next (takeRequest_unchanged hfree ?_)
    have harm : armable (s.beginRequest 0x21).msch.entries[n] = none := armable_eq_none hnone
    simp only [takeArm, indexBelow_val hn, harm]
    exact (if_neg hother).trans (if_neg (by rw [Bool.not_eq_true]; exact hidle))
  · have harm : armable e = some t := (armable_eq_some e t).2 ⟨hidle, hstaged, hfire⟩
    have hact := takeArm_armed (s := s.beginRequest 0x21) hn hother hidle harm
    refine ⟨fun hclock => ?_, fun hclock => ⟨(s.msch.setEntry n (armedAt t e)).fireEntry (fireContext s) cascadeFuel true n, ?_, ?_⟩⟩
    · refine congrArg Host.Outcome.next (takeRequest_answered hfree (hact.trans ?_) rfl)
      rw [State.onMsch, armEntry_waits hclock]
      rfl
    · have hrange := ((scheduleStanding_iff s).1 hstanding).1
      have hset := hrange.setEntry (n := n) (entryInRange_armedEntry (hrange.1 n) hstaged t)
      rw [armedEntry_eq] at hset
      exact fireEntry_fired s hset (card_stagedEntries_lt _)
    · refine congrArg Host.Outcome.next (takeRequest_answered hfree (hact.trans ?_) rfl)
      rw [State.onMsch, armEntry_catchesUp hclock]
      rfl

/-! ## WARNINGS and ATTENTION (R102, R174, R175) -/

theorem warningBytes_length (w : Warning) : (warningBytes w).length = 16 := by
  obtain ⟨kind, subject, time, value⟩ := w
  cases subject <;> simp [warningBytes, timeItem_some_length, signedBytes]

theorem getLsbD_eq_div (b : Byte) (n : Nat) : b.getLsbD n = decide (b.toNat / 2 ^ n % 2 = 1) := by
  rw [BitVec.getLsbD, Nat.testBit_eq_decide_div_mod_eq]

theorem attentionByte_of_bits (b : Byte) :
    attentionByte (b.getLsbD 0) (b.getLsbD 1) (b.getLsbD 2) = BitVec.ofNat 8 (b.toNat % 8) := by decide +revert

theorem attentionByte_eq (capture warnings schedule : Bool) : attentionByte capture warnings schedule =
    BitVec.ofNat 8 ((if capture then 1 else 0) + (if warnings then 2 else 0) + if schedule then 4 else 0) := by
  cases capture <;> cases warnings <;> cases schedule <;> rfl

/-- Settles O59. -/
theorem warningsAndAttentionAnswered : Obligations.WarningsAndAttentionAnswered := by
  intro s hfree
  refine ⟨⟨?_, fun w => ?_⟩, fun enables => ?_⟩
  · simp only [itemBytes_warning]
    exact congrArg Host.Outcome.next (takeRequest_answered hfree rfl rfl)
  · rw [itemBytes_warning, warningBytes_length]
  · intro bit one
    have hbit (k : Nat) : bit k = enables.getLsbD k := (getLsbD_eq_div enables k).symm
    rw [hbit, hbit, hbit]
    refine congrArg Host.Outcome.next (takeRequest_answered hfree ?_ rfl)
    rw [← attentionByte_of_bits, ← attentionByte_eq]
    rfl

/-! ## The port (R167 to R170) -/

theorem statusCode_eq (x : Status) : BitVec.ofNat 8 (statusWords.idxOf x) = x.code := by cases x <;> rfl

theorem bufferBytes_eq (b : Buffer) :
    bufferBytes b = if b.status = .notReady then (headerBytes b).take 1 else headerBytes b ++ b.body := by
  unfold bufferBytes
  split
  next h => simp [headerBytes, h, Status.code]
  next h => simp [headerBytes, statusCode_eq, bigEndian_eq, flagItem]

theorem execOverrun_busy {s : State} {code : Byte} (h : s.svc.request = some code) : execOverrun s = .next s.overrunMark := by
  simp only [execOverrun, h]

/-- SVC_MISO carries the bytes shifted out bit by bit. -/
theorem misoPin_low {s : State} {k : Nat} {byte : Byte} (h : (shiftedOut s (k / 8 + 1))[k / 8]? = some byte) :
    misoPin true k s = .ofBit (byte.getLsbD (7 - k % 8)) := by
  have hbytes : shiftedIn (bitsOfBytes (shiftedOut s (k / 8 + 1))) = shiftedOut s (k / 8 + 1) := by
    simpa using shiftedIn_partial (shiftedOut s (k / 8 + 1)) (part := []) (by decide)
  have hbit := WireLaws.shiftedIn_bits (mosi := bitsOfBytes (shiftedOut s (k / 8 + 1))) (hbytes ▸ h)
  rw [misoPin, if_pos rfl, List.getD_eq_getElem?_getD, hbit, Option.getD_some]

/-- Settles O60. -/
theorem requestsOverrunUnknownAndPlaced : Obligations.RequestsOverrunUnknownAndPlaced := by
  intro s
  refine ⟨fun code hbusy c hc => ?_, fun hfree code hcode => ?_, fun code r hreq hresp => ?_, fun n => ?_,
    fun k => ⟨rfl, fun byte hbyte => misoPin_low hbyte⟩⟩
  · rcases hc with henc | rfl | ⟨b, hb, rfl⟩
    · obtain ⟨own, act, heq, -⟩ := ClockLaws.request_eq c henc
      rw [heq, takeRequest_busy act hbusy]
      rfl
    · exact execOverrun_busy hbusy
    · exact (if_neg hb).trans (congrArg Host.Outcome.next (takeRequest_busy _ hbusy))
  · exact (if_neg hcode).trans (congrArg Host.Outcome.next (takeRequest_unchanged hfree rfl))
  · change execFullResponsePlaced s = _
    simp only [execFullResponsePlaced, hreq, hresp]
    rfl
  · rw [bufferBytes_eq]
    rfl

end Sys2Proof.Tables
end

section
/-! CONFIGURE as its statement gives it: its refusals in their order, and the image it builds item by item (R163, R180). -/

namespace Sys2Proof.Settings

open Sys2Proof.Machine Sys2Proof.AgreementMoves Sys2Proof.Items Sys2Proof.Requests

/-! ## What an item names (R163, steps 2 and 3) -/

theorem indexLimit_settingOf (sel : Byte) : (settingOf sel).bind indexLimit =
    if 0x10 ≤ sel.toNat ∧ sel.toNat ≤ 0x16 then some 4 else if 0x20 ≤ sel.toNat ∧ sel.toNat ≤ 0x22 then some 7 else none := by
  decide +revert

theorem settingOf_eq_none_iff (sel : Byte) : settingOf sel = none ↔
    ¬((1 ≤ sel.toNat ∧ sel.toNat ≤ 6) ∨ (0x10 ≤ sel.toNat ∧ sel.toNat ≤ 0x16) ∨ (0x20 ≤ sel.toNat ∧ sel.toNat ≤ 0x22)) := by
  decide +revert

theorem settingOf_firstOrLast_iff (sel : Byte) :
    (settingOf sel = some .first ∨ settingOf sel = some .last) ↔ (sel = 0x10 ∨ sel = 0x11) := by decide +revert

theorem itemOutsideTable_eq (i : CfgItem) :
    itemOutsideTable i = ((settingOf i.selector).bind indexLimit).any fun top => top < i.index.toNat := by
  unfold itemOutsideTable
  cases settingOf i.selector with
  | none => rfl
  | some st => cases h : indexLimit st <;> simp [h]

theorem itemOutsideTable_iff (i : CfgItem) : itemOutsideTable i = true ↔ ItemOutside i := by
  rw [itemOutsideTable_eq, indexLimit_settingOf, ItemOutside]
  split
  · simp
    omega
  · split <;> simp <;> omega

theorem index_eq_four_iff (b : Byte) : b.toNat = 4 ↔ b = 4 := (BitVec.toNat_inj (x := b) (y := 4))

theorem itemNamesSetting_eq_false_iff (i : CfgItem) : itemNamesSetting i = false ↔
    settingOf i.selector = none ∨ (settingOf i.selector = some .first ∨ settingOf i.selector = some .last) ∧ i.index = 4 := by
  rw [← index_eq_four_iff]
  unfold itemNamesSetting
  cases settingOf i.selector with
  | none => simp
  | some st => cases st <;> simp

theorem itemNamesSetting_iff (i : CfgItem) : (!itemNamesSetting i) = true ↔ ItemUnknown i := by
  rw [Bool.not_eq_true', itemNamesSetting_eq_false_iff, settingOf_eq_none_iff, settingOf_firstOrLast_iff, ItemUnknown]

/-! ## What an item puts into the image (R163, step 4) -/

theorem buildImage_concat (items : List CfgItem) (i : CfgItem) : buildImage (items ++ [i]) = applyItem (buildImage items) i :=
  List.foldl_concat ..

theorem mapNumbered_at {α : Type} {n k : Nat} {i : Fin n} (h : k = i.val) (f : α → α) (v : Vector α n) :
    mapNumbered (fun j x => if j.val = k then f x else x) v = v.set i (f v[i]) := by
  ext j hj
  rw [mapNumbered_getElem, Vector.getElem_set, h]
  by_cases hij : i.val = j
  · subst hij
    simp
  · rw [if_neg hij, if_neg fun he => hij he.symm]

theorem periodSetting_eq (v : Nat) :
    periodSetting v = ([Period.ms125, .ms250, .ms500, .ms1000, .ms2000][min 4 v]?).getD .ms2000 := by
  unfold periodSetting
  have hle : min 4 v ≤ 4 := Nat.min_le_left 4 v
  interval_cases min 4 v <;> rfl

theorem edgeSettingOf_eq (v : Nat) : edgeSettingOf v = ([EdgeSetting.rising, .falling, .both][min 2 v]?).getD .both := by
  match v with
  | 0 => rfl
  | 1 => rfl
  | v + 2 => rw [Nat.min_eq_left (Nat.le_add_left 2 v)]; rfl

/-- The settings that are a profile's attributes (R41). -/
def attrSettings : List Setting := [.pathDelay, .pathUnc, .aging, .driftLimit, .accept]

/-- What an item with this selector makes of a profile. -/
def statedAttr (sel : Byte) (v : Nat) (a : ProfileAttrs) : ProfileAttrs :=
  if sel = 0x12 then { a with pathDelay := min 100000 v }
  else if sel = 0x13 then { a with pathUnc := min 100000 v }
  else if sel = 0x14 then { a with aging := max 1 (min 100 v) }
  else if sel = 0x15 then { a with driftLimit := max 100 (min 100000 v) }
  else { a with accept := min 3 v }

theorem attr_selectors (sel : Byte) : 0x12 ≤ sel.toNat → sel.toNat ≤ 0x16 →
    sel = 0x12 ∨ sel = 0x13 ∨ sel = 0x14 ∨ sel = 0x15 ∨ sel = 0x16 := by decide +revert

theorem attrSetting_of {sel : Byte} (hlo : 0x12 ≤ sel.toNat) (hhi : sel.toNat ≤ 0x16) :
    ∃ st ∈ attrSettings, settingOf sel = some st ∧ ∀ v, setAttr st v = statedAttr sel v := by
  have hclamp (v : Nat) : clampNat 1 100 v = max 1 (min 100 v) ∧ clampNat 100 100000 v = max 100 (min 100000 v) :=
    ⟨clampNat_eq (by decide) v, clampNat_eq (by decide) v⟩
  rcases attr_selectors sel hlo hhi with rfl | rfl | rfl | rfl | rfl
  · exact ⟨.pathDelay, by decide, rfl, fun v => rfl⟩
  · exact ⟨.pathUnc, by decide, rfl, fun v => rfl⟩
  · exact ⟨.aging, by decide, rfl, fun v => funext fun a => by simp [setAttr, statedAttr, (hclamp v).1]⟩
  · exact ⟨.driftLimit, by decide, rfl, fun v => funext fun a => by simp [setAttr, statedAttr, (hclamp v).2]⟩
  · exact ⟨.accept, by decide, rfl, fun v => rfl⟩

section
variable {img : Image} {i : CfgItem}

theorem applyItem_first {w : Fin 4} (hsel : settingOf i.selector = some .first) (hw : i.index.toNat = w.val) :
    applyItem img i =
      { img with windows := img.windows.set w { img.windows[w] with first := min 31 i.value.toNat } } := by
  have hne : i.index.toNat ≠ 4 := hw ▸ Nat.ne_of_lt w.isLt
  simp only [applyItem, hsel, if_neg hne, mapNumbered_at hw]
  rfl

theorem applyItem_last {w : Fin 4} (hsel : settingOf i.selector = some .last) (hw : i.index.toNat = w.val) :
    applyItem img i =
      { img with windows := img.windows.set w { img.windows[w] with last := min 31 i.value.toNat } } := by
  have hne : i.index.toNat ≠ 4 := hw ▸ Nat.ne_of_lt w.isLt
  simp only [applyItem, hsel, if_neg hne, mapNumbered_at hw]
  rfl

theorem applyItem_attr {st : Setting} (hst : st ∈ attrSettings) (hsel : settingOf i.selector = some st) :
    applyItem img i =
      if i.index.toNat = 4 then { img with dflt := setAttr st i.value.toNat img.dflt }
      else { img with
        windows := mapNumbered
          (fun w x => if w.val = i.index.toNat then { x with attrs := setAttr st i.value.toNat x.attrs } else x) img.windows } := by
  simp only [attrSettings, List.mem_cons, List.not_mem_nil, or_false] at hst
  rcases hst with rfl | rfl | rfl | rfl | rfl <;> simp only [applyItem, hsel] <;> rfl

theorem applyItem_windowAttr {w : Fin 4} (hlo : 0x12 ≤ i.selector.toNat) (hhi : i.selector.toNat ≤ 0x16)
    (hw : i.index.toNat = w.val) :
    applyItem img i =
      { img with
        windows :=
          img.windows.set w { img.windows[w] with attrs := statedAttr i.selector i.value.toNat img.windows[w].attrs } } := by
  obtain ⟨st, hst, hsel, hattr⟩ := attrSetting_of hlo hhi
  have hne : i.index.toNat ≠ 4 := hw ▸ Nat.ne_of_lt w.isLt
  rw [applyItem_attr hst hsel, if_neg hne, mapNumbered_at hw, hattr]

theorem applyItem_defaultAttr (hlo : 0x12 ≤ i.selector.toNat) (hhi : i.selector.toNat ≤ 0x16) (hindex : i.index = 4) :
    applyItem img i = { img with dflt := statedAttr i.selector i.value.toNat img.dflt } := by
  obtain ⟨st, hst, hsel, hattr⟩ := attrSetting_of hlo hhi
  rw [applyItem_attr hst hsel, if_pos ((index_eq_four_iff _).2 hindex), hattr]

end

/-- Settles O53. -/
theorem configureTaken : Obligations.ConfigureTaken := by
  refine ⟨fun items s hfree => ?_, rfl, fun items i => ?_⟩
  · have hany (p : CfgItem → Bool) {P : CfgItem → Prop} (hp : ∀ i, p i = true ↔ P i) : items.any p = true ↔ ∃ i ∈ items, P i := by
      simp only [List.any_eq_true, hp]
    have houtside := hany itemOutsideTable itemOutsideTable_iff
    have hunknown := hany (fun i => !itemNamesSetting i) itemNamesSetting_iff
    refine ⟨fun hother => ?_, fun hconfig hout => ?_, fun hconfig hin hunk => ?_, fun hconfig hgood => ?_⟩
    · exact congrArg Host.Outcome.next (takeRequest_unchanged hfree (if_pos hother))
    all_goals have hsync : ¬ (s.beginRequest 0x01).agu.sync ≠ .config := fun hn => hn hconfig
    · exact congrArg Host.Outcome.next
        (takeRequest_unchanged hfree ((if_neg hsync).trans (if_pos (houtside.2 hout))))
    · have hnone : ¬ items.any itemOutsideTable = true := fun h => by
        obtain ⟨i, hi, ho⟩ := houtside.1 h
        exact hin i hi ho
      exact congrArg Host.Outcome.next
        (takeRequest_unchanged hfree ((if_neg hsync).trans ((if_neg hnone).trans (if_pos (hunknown.2 hunk)))))
    · have hnone : ¬ items.any itemOutsideTable = true := fun h => by
        obtain ⟨i, hi, ho⟩ := houtside.1 h
        exact (hgood i hi).1 ho
      have hknown : ¬ (items.any fun i => !itemNamesSetting i) = true := fun h => by
        obtain ⟨i, hi, hu⟩ := hunknown.1 h
        exact (hgood i hi).2 hu
      rw [itemBytes_image]
      exact congrArg Host.Outcome.next
        (takeRequest_answered hfree ((if_neg hsync).trans ((if_neg hnone).trans (if_neg hknown))) rfl)
  · intro img img' v attr
    have himg : img' = applyItem img i := buildImage_concat items i
    rw [himg, ← periodSetting_eq, ← clampNat_eq (lo := 1) (hi := 100) (by decide), ← clampNat_eq (lo := 1000) (by decide),
      ← clampNat_eq (lo := 10) (by decide), ← clampNat_eq (lo := 1) (hi := 10000) (by decide), ← clampNat_eq (lo := 4) (by decide)]
    have hscalar {st : Setting} {sel : Byte} (h : i.selector = sel) (hst : settingOf sel = some st) :
        settingOf i.selector = some st := h ▸ hst
    refine ⟨fun h => ?_, fun h => ?_, fun h => ?_, fun h => ?_, fun h => ?_, fun h => ?_,
      fun w hw => ⟨fun h => applyItem_first (hscalar h rfl) hw, fun h => applyItem_last (hscalar h rfl) hw,
        fun hlo hhi => applyItem_windowAttr hlo hhi hw⟩,
      fun hindex hlo hhi => applyItem_defaultAttr hlo hhi hindex, fun l hl => ⟨fun h => ?_, fun h => ?_, fun h => ?_⟩⟩
    · simp only [applyItem, hscalar (st := .period) h rfl]
      rfl
    · simp only [applyItem, hscalar (st := .ownTol) h rfl]
      rfl
    · simp only [applyItem, hscalar (st := .stepThreshold) h rfl]
      rfl
    · simp only [applyItem, hscalar (st := .slewLimit) h rfl]
      rfl
    · simp only [applyItem, hscalar (st := .settleLimit) h rfl]
      rfl
    · simp only [applyItem, hscalar (st := .reviewPeriod) h rfl]
      rfl
    · simp only [applyItem, hscalar (st := .enabled) h rfl, mapNumbered_at hl]
      rfl
    · rw [← edgeSettingOf_eq]
      simp only [applyItem, hscalar (st := .edge) h rfl, mapNumbered_at hl]
      rfl
    · simp only [applyItem, hscalar (st := .guard) h rfl, mapNumbered_at hl]
      rfl

end Sys2Proof.Settings
end

section
/-! The two resets as the statements give them (R16, R17, R165). -/

namespace Sys2Proof.ResetMoves

open Sys2Proof.Machine Sys2Proof.AgreementMoves

theorem getElem_replicate_fin {α : Type} {n : Nat} (x : α) (i : Fin n) : (Vector.replicate n x)[i] = x :=
  Vector.getElem_replicate i.isLt

theorem noticeOfAgu_eq : noticeOfAgu = fun w => decide (w.kind = .selfAccused ∨ w.kind = .noAgreement) :=
  funext fun _ => (Bool.decide_or _ _).symm

/-- The part right after a full reset of `s`. -/
def afterFullReset (straps : Straps) (s : State) : State :=
  { State.resetWith straps with net := fullResetNet s.net, pending := s.pending, freeDraws := s.freeDraws }

/-- Settles O20. -/
theorem fullResetValues : Obligations.FullResetValues := by
  intro straps s
  have hwarn : (afterFullReset straps s).net.warn =
      s.net.warn.filter fun w => decide (w.kind = .selfAccused ∨ w.kind = .noAgreement) := by
    rw [← noticeOfAgu_eq]
    rfl
  refine ⟨afterFullReset straps s, rfl, rfl, rfl, rfl, getElem_replicate_fin _, rfl, rfl, getElem_replicate_fin _, rfl, rfl, rfl,
    getElem_replicate_fin _, ?_, getElem_replicate_fin _, rfl, rfl, getElem_replicate_fin _, getElem_replicate_fin _, rfl, hwarn,
    rfl, rfl⟩
  intro program
  exact getElem_replicate_fin _

/-! ## RESTART (R165) -/

theorem faultByte_eq (ft : BitVec 2) :
    BitVec.ofNat 8 (faultTolerance ft) = if ft = 0 then 1 else BitVec.ofNat 8 ft.toNat := by
  unfold faultTolerance
  split <;> rfl

theorem restartRemoves_iff (m : Dmon) : restartRemoves m = true ↔ ∃ w ∈ m.warnings, w.kind ≠ .oscFallback := by
  simp [restartRemoves]

theorem raiseOnItsWay_iff (n : InFlight) : raiseOnItsWay n = true ↔ ∃ k time, WarnNotice.raise k time ∈ n.warn := by
  rw [raiseOnItsWay, List.any_eq_true]
  constructor
  · rintro ⟨w, hw, hraise⟩
    cases w with
    | raise k time => exact ⟨k, time, hw⟩
    | remove k => cases hraise
  · rintro ⟨k, time, hw⟩
    exact ⟨_, hw, rfl⟩

/-- Settles O21. -/
theorem restartValues : Obligations.RestartValues := by
  intro straps s hfree
  have hpeer (p : Station) : (mapAll (fun _ => PeerRecord.reset) s.ptab)[p] = PeerRecord.reset := mapAll_getElem _ _ p.val p.isLt
  have hline (l : CapLineNo) : (restartCapu s.capu).lines[l] = { s.capu.lines[l] with guard := none, latch := none } :=
    mapAll_getElem _ _ l.val l.isLt
  refine ⟨restartAll straps s, ?_, rfl, ?_, fun p => ⟨hpeer p, getElem_replicate_fin _ p⟩, ?_, getElem_replicate_fin _, hline⟩
  · rw [← faultByte_eq]
    exact congrArg Host.Outcome.next (takeRequest_answered hfree rfl rfl)
  · change (s.svc.warningsChanged || restartRemoves s.dmon || raiseOnItsWay s.net) = true ↔ _
    rw [Bool.or_eq_true, Bool.or_eq_true, restartRemoves_iff, raiseOnItsWay_iff, or_assoc]
  · intro program
    exact getElem_replicate_fin _

end Sys2Proof.ResetMoves
end
